-- ==== Sys2Proof/Word.lean ====
section
/-! DEFINITION. The two word types of the core: 8-bit registers and memory cells, 16-bit addresses
(00_scope.md rule R7: DATA_WIDTH, ADDR_WIDTH). -/
namespace Sys2Proof

/-- An 8-bit register or memory cell (R7 `DATA_WIDTH`). -/
abbrev Byte := BitVec 8

/-- A 16-bit address or register pair (R7 `ADDR_WIDTH`). -/
abbrev Word := BitVec 16

end Sys2Proof
end

