-- ==== Sys2Proof/Machine/Bits.lean ====
section
/-! DEFINITION. The bit-field, byte-order and sign-extension helpers of 00_scope.md rules R8 and R9. -/
namespace Sys2Proof

/-- `v[15:8]`. -/
def hi8 (v : Word) : Byte := v.extractLsb' 8 8

/-- `v[7:0]`. -/
def lo8 (v : Word) : Byte := v.extractLsb' 0 8

/-- The concatenation of R8, the first argument the more significant. -/
def cat16 (hi lo : Byte) : Word := hi ++ lo

/-- `sext_16(b)` (R9). -/
def sext16 (b : Byte) : Word := b.signExtend 16

/-- `zext_16(b)` (R9). -/
def zext16 (b : Byte) : Word := b.zeroExtend 16

/-- `1 << i` in a byte. -/
def bitMask (i : Nat) : Byte := BitVec.twoPow 8 i

/-- `v` with bit `i` set. -/
def setBit8 (v : Byte) (i : Nat) : Byte := v ||| bitMask i

/-- `v` with bit `i` cleared: `v & ~(1 << i)`. -/
def clearBit8 (v : Byte) (i : Nat) : Byte := v &&& ~~~(bitMask i)

/-- A counter of a stated width: `none` is unbounded (D18, D19), `some w` keeps the value modulo 2^w. -/
def wrapTo : Option Nat → Nat → Nat
  | none, n => n
  | some w, n => n % 2 ^ w

end Sys2Proof
end

