-- ==== Sys2Proof/Machine/Codes.lean ====
section
/-! DEFINITION. The small vocabularies of the instruction set and of the devices, and the bit fields of an
opcode byte: operand codes (30_encoding.md rules R91, R95 to R97), interrupt sources (60_exceptions.md rule R275),
display modes (10_state.md rule R40). -/
namespace Sys2Proof

/-- A 2-bit field: the quadrant `x` of an opcode (R91), the rate index TAC[1:0] (R39). -/
inductive Code2 where
  | k0 | k1 | k2 | k3
  deriving DecidableEq, Repr

/-- A 3-bit field: `y` and `z` of an opcode (R91), a bit index, an RST index. -/
inductive Code3 where
  | k0 | k1 | k2 | k3 | k4 | k5 | k6 | k7
  deriving DecidableEq, Repr

/-- The seven registers a 3-bit operand code can name (R95); F has no code (R21). -/
inductive Reg8 where
  | b | c | d | e | h | l | a
  deriving DecidableEq, Repr

/-- What a 3-bit operand code names: a register, or for code 6 the byte at address HL (R95). -/
inductive Operand8 where
  | reg (r : Reg8)
  | atHL
  deriving DecidableEq, Repr

/-- Table `rp` of R96. -/
inductive Pair where
  | bc | de | hl | sp
  deriving DecidableEq, Repr

/-- Table `rp2` of R96 (PUSH and POP). -/
inductive StackPair where
  | bc | de | hl | af
  deriving DecidableEq, Repr

/-- The four conditions of R97 and R200. -/
inductive Cond where
  | nz | z | nc | c
  deriving DecidableEq, Repr

/-- The eight ALU operations in the order of their codes (R97). -/
inductive AluOp where
  | add | adc | sub | sbc | and | xor | or | cp
  deriving DecidableEq, Repr

/-- The eight extended-page rotate and shift operations in the order of their codes (R97). -/
inductive RotOp where
  | rlc | rrc | rl | rr | sla | sra | swap | srl
  deriving DecidableEq, Repr

/-- An opcode is a pair (page, byte): base page or extended (0xCB) page (R93). -/
inductive Opcode where
  | base (b : Byte)
  | ext (b : Byte)
  deriving DecidableEq, Repr

/-- The five interrupt sources, in priority order (R275). -/
inductive Source where
  | vblank | lcdStat | timer | serial | joypad
  deriving DecidableEq, Repr

/-- The four display modes (R40). -/
inductive DisplayMode where
  | mode0 | mode1 | mode2 | mode3
  deriving DecidableEq, Repr

def code2Of : Nat → Code2
  | 0 => .k0
  | 1 => .k1
  | 2 => .k2
  | _ => .k3

def code3Of : Nat → Code3
  | 0 => .k0
  | 1 => .k1
  | 2 => .k2
  | 3 => .k3
  | 4 => .k4
  | 5 => .k5
  | 6 => .k6
  | _ => .k7

def Code3.index : Code3 → Nat
  | .k0 => 0
  | .k1 => 1
  | .k2 => 2
  | .k3 => 3
  | .k4 => 4
  | .k5 => 5
  | .k6 => 6
  | .k7 => 7

/-- Field `x` = `op[7:6]` (R91). -/
def fieldX (op : Byte) : Code2 := code2Of (op.toNat / 64)

/-- Field `y` = `op[5:3]` (R91). -/
def fieldY (op : Byte) : Code3 := code3Of (op.toNat / 8 % 8)

/-- Field `z` = `op[2:0]` (R91). -/
def fieldZ (op : Byte) : Code3 := code3Of (op.toNat % 8)

/-- R95: operand code `k`. -/
def operand8Of : Code3 → Operand8
  | .k0 => .reg .b
  | .k1 => .reg .c
  | .k2 => .reg .d
  | .k3 => .reg .e
  | .k4 => .reg .h
  | .k5 => .reg .l
  | .k6 => .atHL
  | .k7 => .reg .a

/-- R97: ALU operation code. -/
def aluOpOf : Code3 → AluOp
  | .k0 => .add
  | .k1 => .adc
  | .k2 => .sub
  | .k3 => .sbc
  | .k4 => .and
  | .k5 => .xor
  | .k6 => .or
  | .k7 => .cp

/-- R97: extended-page rotate operation code. -/
def rotOpOf : Code3 → RotOp
  | .k0 => .rlc
  | .k1 => .rrc
  | .k2 => .rl
  | .k3 => .rr
  | .k4 => .sla
  | .k5 => .sra
  | .k6 => .swap
  | .k7 => .srl

/-- The five sources, highest priority first (R275, R281). -/
def sourcesByPriority : List Source := [.vblank, .lcdStat, .timer, .serial, .joypad]

/-- The display mode held in STAT[1:0] (R40): the binary value is the mode number. -/
def displayModeOf (stat : Byte) : DisplayMode :=
  match code2Of (stat.toNat % 4) with
  | .k0 => .mode0
  | .k1 => .mode1
  | .k2 => .mode2
  | .k3 => .mode3

/-- The mode number of R40. -/
def displayModeBits : DisplayMode → Byte
  | .mode0 => 0
  | .mode1 => 1
  | .mode2 => 2
  | .mode3 => 3

/-- R298: the successor of each mode (Mode1 to Mode2 is decision D22). -/
def nextDisplayMode : DisplayMode → DisplayMode
  | .mode2 => .mode3
  | .mode3 => .mode0
  | .mode0 => .mode1
  | .mode1 => .mode2

/-- The rate index TAC[1:0] (R39). -/
def tacRate (tac : Byte) : Code2 := code2Of (tac.toNat % 4)

end Sys2Proof
end

