-- ==== Sys2Proof/Config.lean ====
section
/-! DEFINITION. The implementation parameters of 00_scope.md rule R7, as one structure of configuration fields, so that a
claim can name them or quantify over them. The values the spec gives as defaults are `Sys2Proof.Machine.config`
(Machine/Params.lean), and `Sys2Proof.Machine.stepWith` (Machine/Parametric.lean) is the step at any choice of them. Every parameter
that R7 marks GK or D is a field. Of those it marks GBDOC, DATA_WIDTH, ADDR_WIDTH, MEM_SIZE, NUM_REG8, NUM_IRQ, OPCODE_SPACE, PREFIX
and DIV_PERIOD are fixed by the types and the decoder (log 24).
No value of this core is left open (93_implementation_defined.md U12), so there is no free value here. -/
namespace Sys2Proof

/-- The parameters of R7. -/
structure Config where
  /-- `ADDR_DIV`: the divider register. -/
  addrDiv : Word
  /-- `ADDR_TIMA`: the tick counter. -/
  addrTima : Word
  /-- `ADDR_TMA`: the reload register. -/
  addrTma : Word
  /-- `ADDR_TAC`: the rate-select register. -/
  addrTac : Word
  /-- `ADDR_IF`: the interrupt-request register. -/
  addrIf : Word
  /-- `ADDR_IE`: the interrupt-enable register. -/
  addrIe : Word
  /-- `ADDR_STAT`: the display-status register. -/
  addrStat : Word
  /-- `ADDR_LY`: the scanline register. -/
  addrLy : Word
  /-- The page that LDH and the (C) forms address (R62). -/
  highPage : Word
  /-- `IRQ_BIT[s]`: the source's bit in IF and IE. -/
  irqBit : Source → Nat
  /-- `IRQ_VECTOR[s]`: the dispatch address. -/
  irqVector : Source → Word
  /-- `IRQ_PUSH_PC`: whether interrupt entry pushes the interrupted PC (D2, R284). -/
  irqPushPc : Bool
  /-- `TAC_ENABLE_BIT`. -/
  tacEnableBit : Nat
  /-- `TIMER_CPT[i]`: cycles per tick for rate index `i`. -/
  timerCpt : Code2 → Nat
  /-- `LCD_DUR[m]`: duration of a display mode in cycles. -/
  lcdDur : DisplayMode → Nat
  /-- `LY_MOD`. -/
  lyMod : Nat
  /-- `RST_TARGET[y]`. -/
  rstTarget : Code3 → Word
  /-- `CYCLES(opcode, taken)` (R346). -/
  cycles : Opcode → Bool → Nat
  /-- `INVALID_LEN` (D7). -/
  invalidLen : Nat
  /-- `INVALID_CYCLES` (D7). -/
  invalidCycles : Nat
  /-- `STOP_LEN` (D17). -/
  stopLen : Nat
  /-- `CYCLE_COUNTER_WIDTH` (D18): `none` is unbounded. -/
  cycleCounterWidth : Option Nat
  /-- `ACC_WIDTH` of `tima_acc` and `lcd_acc` (D19): `none` is unbounded. -/
  accWidth : Option Nat

/-- The eight device-register addresses, which must be pairwise distinct (D11). -/
def Config.deviceAddrs (cfg : Config) : List Word :=
  [cfg.addrDiv, cfg.addrTima, cfg.addrTma, cfg.addrTac, cfg.addrIf, cfg.addrIe, cfg.addrStat, cfg.addrLy]

/-- What the spec requires of a choice of parameters: distinct device addresses (D11), distinct request bits inside a byte (R34),
and a positive threshold, duration and modulus wherever one divides. -/
def Config.wf (cfg : Config) : Bool :=
  decide cfg.deviceAddrs.Nodup
    && decide (sourcesByPriority.map cfg.irqBit).Nodup
    && sourcesByPriority.all (fun src => decide (cfg.irqBit src < 8))
    && [Code2.k0, .k1, .k2, .k3].all (fun i => decide (0 < cfg.timerCpt i))
    && [DisplayMode.mode0, .mode1, .mode2, .mode3].all (fun m => decide (0 < cfg.lcdDur m))
    && decide (0 < cfg.lyMod)

end Sys2Proof
end

