-- ==== Sys2Proof/Machine/Params.lean ====
section
/-! DEFINITION. The default values of the parameters of 00_scope.md rule R7 and the cycle table of
70_reset_and_hazards.md rule R346. -/
namespace Sys2Proof.Machine

/-- R346, base page: one list a row (high nibble), one entry a column (low nibble), each the pair (taken, not taken).
The entry of 0xCB (the prefix, which has no cost of its own) is never read. -/
def baseCycleRows : List (List (Nat × Nat)) :=
  [ [(4, 4), (12, 12), (8, 8), (8, 8), (4, 4), (4, 4), (8, 8), (4, 4),
      (20, 20), (8, 8), (8, 8), (8, 8), (4, 4), (4, 4), (8, 8), (4, 4)],
    [(4, 4), (12, 12), (8, 8), (8, 8), (4, 4), (4, 4), (8, 8), (4, 4),
      (12, 12), (8, 8), (8, 8), (8, 8), (4, 4), (4, 4), (8, 8), (4, 4)],
    [(12, 8), (12, 12), (8, 8), (8, 8), (4, 4), (4, 4), (8, 8), (4, 4),
      (12, 8), (8, 8), (8, 8), (8, 8), (4, 4), (4, 4), (8, 8), (4, 4)],
    [(12, 8), (12, 12), (8, 8), (8, 8), (12, 12), (12, 12), (12, 12), (4, 4),
      (12, 8), (8, 8), (8, 8), (8, 8), (4, 4), (4, 4), (8, 8), (4, 4)] ]
  ++ List.replicate 3
      [(4, 4), (4, 4), (4, 4), (4, 4), (4, 4), (4, 4), (8, 8), (4, 4),
        (4, 4), (4, 4), (4, 4), (4, 4), (4, 4), (4, 4), (8, 8), (4, 4)]
  ++ [ [(8, 8), (8, 8), (8, 8), (8, 8), (8, 8), (8, 8), (4, 4), (8, 8),
        (4, 4), (4, 4), (4, 4), (4, 4), (4, 4), (4, 4), (8, 8), (4, 4)] ]
  ++ List.replicate 4
      [(4, 4), (4, 4), (4, 4), (4, 4), (4, 4), (4, 4), (8, 8), (4, 4),
        (4, 4), (4, 4), (4, 4), (4, 4), (4, 4), (4, 4), (8, 8), (4, 4)]
  ++ [ [(20, 8), (12, 12), (16, 12), (16, 16), (24, 12), (16, 16), (8, 8), (16, 16),
        (20, 8), (16, 16), (16, 12), (0, 0), (24, 12), (24, 24), (8, 8), (16, 16)],
      [(20, 8), (12, 12), (16, 12), (4, 4), (24, 12), (16, 16), (8, 8), (16, 16),
        (20, 8), (16, 16), (16, 12), (4, 4), (24, 12), (4, 4), (8, 8), (16, 16)],
      [(12, 12), (12, 12), (8, 8), (4, 4), (4, 4), (16, 16), (8, 8), (16, 16),
        (16, 16), (4, 4), (16, 16), (4, 4), (4, 4), (4, 4), (8, 8), (16, 16)],
      [(12, 12), (12, 12), (8, 8), (4, 4), (4, 4), (16, 16), (8, 8), (16, 16),
        (12, 12), (8, 8), (16, 16), (4, 4), (4, 4), (4, 4), (8, 8), (16, 16)] ]

/-- R346, extended page: 8 for a register operand; 16 for a read-modify-write of (HL); 12 for BIT b,(HL). -/
def extCycles (op2 : Byte) : Nat :=
  if op2.toNat % 8 = 6 then (if op2.toNat / 64 = 1 then 12 else 16) else 8

/-- `CYCLES(opcode, taken)` of R346. -/
def cycleTable : Opcode → Bool → Nat
  | .base op, taken =>
    let entry := (baseCycleRows.getD (op.toNat / 16) []).getD (op.toNat % 16) (0, 0)
    if taken then entry.1 else entry.2
  | .ext op2, _ => extCycles op2

/-- `IRQ_BIT` (R7, R34; D12). -/
def irqBitDefault : Source → Nat
  | .vblank => 0
  | .lcdStat => 1
  | .timer => 2
  | .serial => 3
  | .joypad => 4

/-- `IRQ_VECTOR` (R7, R275; Timer is GBDOC's, the others D12). -/
def irqVectorDefault : Source → Word
  | .vblank => 0x0040
  | .lcdStat => 0x0048
  | .timer => 0x0050
  | .serial => 0x0058
  | .joypad => 0x0060

/-- `TIMER_CPT` (R7, R39). -/
def timerCptDefault : Code2 → Nat
  | .k0 => 1024
  | .k1 => 16
  | .k2 => 64
  | .k3 => 256

/-- `LCD_DUR` (R7, R296). -/
def lcdDurDefault : DisplayMode → Nat
  | .mode0 => 204
  | .mode1 => 4560
  | .mode2 => 80
  | .mode3 => 172

/-- `RST_TARGET[y]` = 8 * y (R7, R211). -/
def rstTargetDefault (y : Code3) : Word := BitVec.ofNat 16 (8 * y.index)

/-- The parameters at the defaults of R7, which every rule and example of the spec uses. -/
def config : Config where
  addrDiv := 0xFF04
  addrTima := 0xFF05
  addrTma := 0xFF06
  addrTac := 0xFF07
  addrIf := 0xFF0F
  addrIe := 0xFFFF
  addrStat := 0xFF41
  addrLy := 0xFF44
  highPage := 0xFF00
  irqBit := irqBitDefault
  irqVector := irqVectorDefault
  irqPushPc := true
  tacEnableBit := 2
  timerCpt := timerCptDefault
  lcdDur := lcdDurDefault
  lyMod := 154
  rstTarget := rstTargetDefault
  cycles := cycleTable
  invalidLen := 1
  invalidCycles := 4
  stopLen := 2
  cycleCounterWidth := none
  accWidth := none

end Sys2Proof.Machine
end

