-- ==== Sys2Proof/Machine/Memory.lean ====
section
/-! DEFINITION. The address space as plain data: a list of (address, byte) pairs in one canonical form, addresses strictly
rising, every address below 65536, no entry equal to what an unlisted address reads as (20_memory.md rules R60, R61). -/
namespace Sys2Proof.Machine

/-- The contents of the address space: the bytes that differ from `unlistedByte`. -/
abbrev Memory := List Host.Cell

/-- What an address that the list does not name reads as: 0x00, the value `reset()` gives every byte (R47). -/
def unlistedByte : Byte := 0

/-- The byte at address `a`. -/
def Memory.read : Memory → Nat → Byte
  | [], _ => unlistedByte
  | (k, v) :: m, a => if k = a then v else Memory.read m a

/-- The memory with every entry for address `a` taken out. -/
def Memory.without : Memory → Nat → Memory
  | [], _ => []
  | (k, v) :: m, a => if k = a then Memory.without m a else (k, v) :: Memory.without m a

/-- The memory with an entry put before the first one of a higher address. -/
def Memory.place : Memory → Nat → Byte → Memory
  | [], a, v => [(a, v)]
  | (k, w) :: m, a, v => if a < k then (a, v) :: (k, w) :: m else (k, w) :: Memory.place m a v

/-- Store one byte, keeping the canonical form. -/
def Memory.write (m : Memory) (a : Nat) (v : Byte) : Memory :=
  if v = unlistedByte then m.without a else (m.without a).place a v

/-- The canonical form. -/
def Memory.wf : Memory → Bool
  | [] => true
  | (a, v) :: m => decide (a < 65536) && decide (v ≠ unlistedByte) && m.all (fun c => decide (a < c.1)) && Memory.wf m

end Sys2Proof.Machine
end

