-- ==== Sys2Proof/Machine/State.lean ====
section
/-! DEFINITION. The complete state of the core (10_state.md rule R20), the reasons a step can stop, and the state after reset
(10_state.md rule R47). -/
namespace Sys2Proof.Machine

/-- The run state (R32). -/
inductive RunState where
  | running
  | halted
  | stopped
  deriving DecidableEq, Repr

/-- Every piece of state of R20, and nothing else. The device registers DIV, TIMA, TMA, TAC, IF, IE, STAT and LY are bytes
of `mem` (R33); register pairs and flags are views (R22, R24). -/
structure State where
  /-- Accumulator (R21). -/
  a : Byte
  /-- Flags (R24): Z bit 7, N bit 6, H bit 5, C bit 4. -/
  f : Byte
  b : Byte
  c : Byte
  d : Byte
  e : Byte
  h : Byte
  l : Byte
  /-- Stack pointer (R30): the address of the most recently pushed byte. -/
  sp : Word
  /-- Program counter (R28). -/
  pc : Word
  /-- The global interrupt gate (R31). -/
  ime : Bool
  /-- The run state (R32). -/
  run : RunState
  /-- The cycle counter (R42; unbounded, D18). -/
  cycles : Nat
  /-- The 64 KiB address space (R60). -/
  mem : Memory
  /-- `div_acc` (R43): the divider's internal 8-bit accumulator. -/
  divAcc : Byte
  /-- `tima_acc` (R44; unbounded, D19). -/
  timaAcc : Nat
  /-- `lcd_acc` (R45; unbounded, D19). -/
  lcdAcc : Nat
  deriving DecidableEq, Repr

/-- Why a step stops with a fault: NEVER. The core has no synchronous exception and no step fails (60_exceptions.md rule
R272: "A model therefore has a total step function with no error result"), so no constructor exists. Safe: nothing raises it. -/
inductive Fault where
  deriving DecidableEq, Repr

/-- Why an instruction is refused. -/
inductive Refusal where
  /-- Raised only by an arm of `exec` whose instruction has no meaning yet; no arm of this model raises it. Safe. -/
  | notModelled (mnemonic : String)
  deriving DecidableEq, Repr

/-- R47: the state after `reset()`. Every value is the spec's; `divAcc`, `timaAcc`, `lcdAcc` are its decision D16. -/
def State.reset : State where
  a := 0
  f := 0
  b := 0
  c := 0
  d := 0
  e := 0
  h := 0
  l := 0
  sp := 0
  pc := 0
  ime := true
  run := .running
  cycles := 0
  mem := []
  divAcc := 0
  timaAcc := 0
  lcdAcc := 0

end Sys2Proof.Machine
end

