-- ==== Sys2Proof/Machine/Ops.lean ====
section
/-! DEFINITION. The named operations over memory, the stack, the program counter and the interrupt gate that every meaning
uses: 20_memory.md rules R63 to R69, 60_exceptions.md rules R270 (stages 3 and 4), R283 and R285. -/
namespace Sys2Proof.Machine

/-- What one instruction answers. -/
abbrev Result := Host.Outcome State Fault Refusal

/-- `MemRead(addr, 1)` (R63): no side effect at any address. -/
def State.rd (s : State) (addr : Word) : Byte := s.mem.read addr.toNat

/-- A raw store (R65), used by the devices, by interrupt entry's clearing of the request bit and by `load_rom`. -/
def State.poke (s : State) (addr : Word) (v : Byte) : State := { s with mem := s.mem.write addr.toNat v }

/-- `MemWrite(addr, 1, v)` (R63, R64): a store to the divider register stores 0, any other store stores `v`. -/
def memWrite (cfg : Config) (addr : Word) (v : Byte) (s : State) : State :=
  s.poke addr (if addr = cfg.addrDiv then 0 else v)

/-- `MemRead(addr, 2)` (R66): little-endian, the second address wrapping. -/
def memRead16 (addr : Word) (s : State) : Word := cat16 (s.rd (addr + 1)) (s.rd addr)

/-- `MemWrite(addr, 2, v)` (R66): the low byte first, then the high byte at the next address. -/
def memWrite16 (cfg : Config) (addr v : Word) (s : State) : State :=
  memWrite cfg (addr + 1) (hi8 v) (memWrite cfg addr (lo8 v) s)

/-- One half of `Push16`: SP is decremented, then the byte is stored where it points (R68). -/
def push8 (cfg : Config) (v : Byte) (s : State) : State :=
  memWrite cfg (s.sp - 1) v { s with sp := s.sp - 1 }

/-- `Push16(v)` (R68): high byte first. -/
def push16 (cfg : Config) (v : Word) (s : State) : State := push8 cfg (lo8 v) (push8 cfg (hi8 v) s)

/-- The word `Pop16()` returns (R69): the low byte at SP, the high byte at SP + 1. -/
def stackTop (s : State) : Word := cat16 (s.rd (s.sp + 1)) (s.rd s.sp)

/-- `Pop16()`'s effect on SP (R69). -/
def dropTop (s : State) : State := { s with sp := s.sp + 2 }

/-- `next = u16(pc_at_fetch + length)` (R28, R212). -/
def nextPc (len : Nat) (s : State) : Word := s.pc + BitVec.ofNat 16 len

/-- Stages 3 and 4 of R270 for an instruction that transfers control: the cost is counted and PC ends as `target`. -/
def transfer (cost : Nat) (target : Word) (s : State) : State :=
  { s with cycles := s.cycles + cost, pc := target }

/-- Stages 3 and 4 of R270 for every other instruction: the cost is counted and PC ends as `next`. -/
def retireWith (len cost : Nat) (s : State) : State := transfer cost (nextPc len s) s

/-- `retireWith` at the cost the cycle table gives the opcode (R346). -/
def retire (cfg : Config) (op : Opcode) (len : Nat) (s : State) : State := retireWith len (cfg.cycles op true) s

/-- Interrupt entry for a source (R283), the ONE operation that takes an exception: its request bit is cleared, the gate is
turned off, PC is pushed when `IRQ_PUSH_PC` (R284), PC becomes the source's dispatch address. -/
def enterInterrupt (cfg : Config) (src : Source) (s : State) : State :=
  let cleared := s.poke cfg.addrIf (clearBit8 (s.rd cfg.addrIf) (cfg.irqBit src))
  let gated := { cleared with ime := false }
  let pushed := if cfg.irqPushPc then push16 cfg gated.pc gated else gated
  { pushed with pc := cfg.irqVector src }

/-- The return from an interrupt (R285; RETI, R210): PC is popped and the gate is turned on; nothing else is restored. -/
def returnFromInterrupt (cost : Nat) (s : State) : State :=
  { transfer cost (stackTop s) (dropTop s) with ime := true }

end Sys2Proof.Machine
end

