-- ==== Sys2Proof/Machine/Operands.lean ====
section
/-! DEFINITION. Every operand form: 8-bit registers, register pairs as views (10_state.md rule R22), the stack pairs with AF
(44_stack_load16.md rule R222), the byte at HL, the high page (20_memory.md rule R62), and the conditions (43_control.md rule R200). -/
namespace Sys2Proof.Machine

/-- The 8-bit register `x[k]` (R10, R95). -/
def State.reg (s : State) : Reg8 → Byte
  | .b => s.b
  | .c => s.c
  | .d => s.d
  | .e => s.e
  | .h => s.h
  | .l => s.l
  | .a => s.a

/-- `x[k] <- v`. -/
def State.setReg (s : State) (r : Reg8) (v : Byte) : State :=
  match r with
  | .b => { s with b := v }
  | .c => { s with c := v }
  | .d => { s with d := v }
  | .e => { s with e := v }
  | .h => { s with h := v }
  | .l => { s with l := v }
  | .a => { s with a := v }

/-- `rp[p]` (R22, R96): the high register first. -/
def State.pair (s : State) : Pair → Word
  | .bc => cat16 s.b s.c
  | .de => cat16 s.d s.e
  | .hl => cat16 s.h s.l
  | .sp => s.sp

/-- `rp[p] <- v` (R22). -/
def State.setPair (s : State) (p : Pair) (v : Word) : State :=
  match p with
  | .bc => { s with b := hi8 v, c := lo8 v }
  | .de => { s with d := hi8 v, e := lo8 v }
  | .hl => { s with h := hi8 v, l := lo8 v }
  | .sp => { s with sp := v }

/-- `rp2[p]` (R22, R96). -/
def State.stackPair (s : State) : StackPair → Word
  | .bc => cat16 s.b s.c
  | .de => cat16 s.d s.e
  | .hl => cat16 s.h s.l
  | .af => cat16 s.a s.f

/-- `rp2[p] <- v`; a write to AF keeps F's low nibble zero (R222, R25; D10). -/
def State.setStackPair (s : State) (p : StackPair) (v : Word) : State :=
  match p with
  | .bc => { s with b := hi8 v, c := lo8 v }
  | .de => { s with d := hi8 v, e := lo8 v }
  | .hl => { s with h := hi8 v, l := lo8 v }
  | .af => { s with a := hi8 v, f := lo8 v &&& 0xF0 }

/-- The pair HL, the main memory pointer (R22). -/
def State.hl (s : State) : Word := s.pair .hl

/-- The address `0xFF00 + n` of the LDH and (C) forms (R62). -/
def highPageAddr (cfg : Config) (n : Byte) : Word := cfg.highPage + zext16 n

/-- `F.Z` (R24). -/
def State.flagZ (s : State) : Bool := s.f.getLsbD 7

/-- `F.N` (R24). -/
def State.flagN (s : State) : Bool := s.f.getLsbD 6

/-- `F.H` (R24). -/
def State.flagH (s : State) : Bool := s.f.getLsbD 5

/-- `F.C` (R24). -/
def State.flagC (s : State) : Bool := s.f.getLsbD 4

/-- `cond(cc)` (R200). -/
def State.cond (s : State) : Cond → Bool
  | .nz => !s.flagZ
  | .z => s.flagZ
  | .nc => !s.flagC
  | .c => s.flagC

end Sys2Proof.Machine
end

