-- ==== Sys2Proof/Machine/Flags.lean ====
section
/-! DEFINITION. Every flag computation and the value it goes with: 10_state.md rules R24 to R27, 40_alu8.md, 41_alu16.md rules
R160 and R161, 42_rotate_shift_bit.md. Carries are compared on unbounded sums (R9, R26). -/
namespace Sys2Proof.Machine

/-- F with the four flags given and the low nibble zero (R24, R25: "the low nibble is always zero after any flag-setting
operation"). -/
def packF (z n h c : Bool) : Byte :=
  (if z then 0x80#8 else 0#8) ||| (if n then 0x40#8 else 0#8) ||| (if h then 0x20#8 else 0#8) ||| (if c then 0x10#8 else 0#8)

/-- A result byte with the F that goes with it. -/
structure Flagged where
  value : Byte
  flags : Byte
  deriving DecidableEq, Repr

/-- R26, `add8`: carry out of bit 3. -/
def halfAdd8 (a b : Byte) (cin : Bool) : Bool := decide (a.toNat % 16 + b.toNat % 16 + cin.toNat > 0xF)

/-- R26, `add8`: carry out of bit 7. -/
def carryAdd8 (a b : Byte) (cin : Bool) : Bool := decide (a.toNat + b.toNat + cin.toNat > 0xFF)

/-- R26, `sub8`: borrow from bit 4. -/
def halfSub8 (a b : Byte) (cin : Bool) : Bool := decide (a.toNat % 16 < b.toNat % 16 + cin.toNat)

/-- R26, `sub8`: borrow from bit 8. -/
def carrySub8 (a b : Byte) (cin : Bool) : Bool := decide (a.toNat < b.toNat + cin.toNat)

/-- R26, `add16`: carry out of bit 11. -/
def halfAdd16 (a b : Word) : Bool := decide (a.toNat % 0x1000 + b.toNat % 0x1000 > 0x0FFF)

/-- R26, `add16`: carry out of bit 15. -/
def carryAdd16 (a b : Word) : Bool := decide (a.toNat + b.toNat > 0xFFFF)

/-- A flag as a byte, for sums with the carry. -/
def bitByte (c : Bool) : Byte := if c then 1 else 0

/-- ADD and ADC (R121, R124). -/
def add8 (a b : Byte) (cin : Bool) : Flagged :=
  let r := a + b + bitByte cin
  ⟨r, packF (r == 0) false (halfAdd8 a b cin) (carryAdd8 a b cin)⟩

/-- SUB, SBC and the comparison of CP (R127, R130, R142). -/
def sub8 (a b : Byte) (cin : Bool) : Flagged :=
  let r := a - b - bitByte cin
  ⟨r, packF (r == 0) true (halfSub8 a b cin) (carrySub8 a b cin)⟩

/-- AND (R133): H set, N and C clear. -/
def and8 (a b : Byte) : Flagged := ⟨a &&& b, packF ((a &&& b) == 0) false true false⟩

/-- XOR (R136): N, H and C clear. -/
def xor8 (a b : Byte) : Flagged := ⟨a ^^^ b, packF ((a ^^^ b) == 0) false false false⟩

/-- OR (R139): N, H and C clear. -/
def or8 (a b : Byte) : Flagged := ⟨a ||| b, packF ((a ||| b) == 0) false false false⟩

/-- One of the eight two-operand operations on A: the value A ends with and F (R120 to R144). CP discards the difference (R142). -/
def alu8 (o : AluOp) (a b : Byte) (carry : Bool) : Flagged :=
  match o with
  | .add => add8 a b false
  | .adc => add8 a b carry
  | .sub => sub8 a b false
  | .sbc => sub8 a b carry
  | .and => and8 a b
  | .xor => xor8 a b
  | .or => or8 a b
  | .cp => ⟨a, (sub8 a b false).flags⟩

/-- INC of a byte (R145): C is kept. -/
def inc8 (v : Byte) (carry : Bool) : Flagged :=
  ⟨v + 1, packF (v + 1 == 0) false (decide (v.toNat % 16 = 0xF)) carry⟩

/-- DEC of a byte (R147): C is kept. -/
def dec8 (v : Byte) (carry : Bool) : Flagged :=
  ⟨v - 1, packF (v - 1 == 0) true (decide (v.toNat % 16 = 0)) carry⟩

/-- The correction DAA applies after an addition, and the carry it leaves (R149): both tests look at the unadjusted A. -/
def daaAddCorrection (a : Byte) (half carry : Bool) : Byte :=
  (if half ∨ a.toNat % 16 > 0x09 then 0x06#8 else 0#8) ||| (if carry ∨ a.toNat > 0x99 then 0x60#8 else 0#8)

/-- The correction DAA applies after a subtraction (R149): A is not looked at. -/
def daaSubCorrection (half carry : Bool) : Byte :=
  (if half then 0x06#8 else 0#8) ||| (if carry then 0x60#8 else 0#8)

/-- DAA (R149): N is kept, H is cleared. -/
def daa8 (a : Byte) (sub half carry : Bool) : Flagged :=
  if sub then
    let r := a - daaSubCorrection half carry
    ⟨r, packF (r == 0) true false carry⟩
  else
    let r := a + daaAddCorrection a half carry
    ⟨r, packF (r == 0) false false (carry || decide (a.toNat > 0x99))⟩

/-- The value an 8-bit rotate, shift or SWAP gives, with the old carry coming in where the operation takes it
(R175 to R190, R197). -/
def rotValue (o : RotOp) (v : Byte) (carry : Bool) : Byte :=
  match o with
  | .rlc => (v <<< 1) ||| (v >>> 7)
  | .rrc => (v >>> 1) ||| (v <<< 7)
  | .rl => (v <<< 1) ||| bitByte carry
  | .rr => (v >>> 1) ||| (bitByte carry <<< 7)
  | .sla => v <<< 1
  | .sra => (v >>> 1) ||| (v &&& 0x80#8)
  | .swap => (v <<< 4) ||| (v >>> 4)
  | .srl => v >>> 1

/-- The bit that becomes the carry: the one shifted out; SWAP clears the carry (R187, R197). -/
def rotCarry (o : RotOp) (v : Byte) : Bool :=
  match o with
  | .rlc | .rl | .sla => v.getLsbD 7
  | .rrc | .rr | .sra | .srl => v.getLsbD 0
  | .swap => false

/-- An extended-page rotate, shift or SWAP: Z from the result, N and H clear (R197). -/
def rot8 (o : RotOp) (v : Byte) (carry : Bool) : Flagged :=
  ⟨rotValue o v carry, packF (rotValue o v carry == 0) false false (rotCarry o v)⟩

/-- An accumulator rotate of the base page: as `rot8` with Z = 0 unconditionally (R198; D4). -/
def rotA8 (o : RotOp) (v : Byte) (carry : Bool) : Flagged :=
  ⟨rotValue o v carry, packF false false false (rotCarry o v)⟩

/-- F after BIT b (R191): Z is the complement of the bit, N clear, H set, C kept. -/
def bitFlags (i : Nat) (v : Byte) (carry : Bool) : Byte := packF (!v.getLsbD i) false true carry

/-- F after ADD HL,rr (R160): Z kept, H and C the carries out of bits 11 and 15 (D5). -/
def addHlFlags (a b : Word) (zero : Bool) : Byte := packF zero false (halfAdd16 a b) (carryAdd16 a b)

/-- F after ADD SP,e and LD HL,SP+e (R161, R226): Z and N clear, H and C the carries of the unsigned addition of the low byte
of SP and the displacement byte. -/
def addSpFlags (sp : Word) (e : Byte) : Byte :=
  packF false false (halfAdd8 (lo8 sp) e false) (carryAdd8 (lo8 sp) e false)

end Sys2Proof.Machine
end

