-- ==== Sys2Proof/Machine/Alu16.lean ====
section
/-! DEFINITION. 16-bit arithmetic (41_alu16.md): the shared operations, then one meaning per instruction. -/
namespace Sys2Proof.Machine

/-- `ADD HL,rr` (R160). -/
def addHlPair (cfg : Config) (op : Opcode) (p : Pair) (s : State) : Result :=
  .next (retire cfg op 1
    (State.setPair { s with f := addHlFlags s.hl (s.pair p) s.flagZ } .hl (s.hl + s.pair p)))

/-- `ADD SP,e` (R161). -/
def addSpRel (cfg : Config) (op : Opcode) (e : Byte) (s : State) : Result :=
  .next (retire cfg op 2 { s with sp := s.sp + sext16 e, f := addSpFlags s.sp e })

/-- `INC rr` (R162): no flag is written. -/
def incPair (cfg : Config) (op : Opcode) (p : Pair) (s : State) : Result :=
  .next (retire cfg op 1 (s.setPair p (s.pair p + 1)))

/-- `DEC rr` (R163): no flag is written. -/
def decPair (cfg : Config) (op : Opcode) (p : Pair) (s : State) : Result :=
  .next (retire cfg op 1 (s.setPair p (s.pair p - 1)))

/-! ### The meanings -/

/-- `INC BC` (R162). -/
def exec_inc_BC (s : State) : Result := incPair config (.base 0x03) .bc s

/-- `ADD HL,BC` (R160). -/
def exec_add_HL_BC (s : State) : Result := addHlPair config (.base 0x09) .bc s

/-- `DEC BC` (R163). -/
def exec_dec_BC (s : State) : Result := decPair config (.base 0x0B) .bc s

/-- `INC DE` (R162). -/
def exec_inc_DE (s : State) : Result := incPair config (.base 0x13) .de s

/-- `ADD HL,DE` (R160). -/
def exec_add_HL_DE (s : State) : Result := addHlPair config (.base 0x19) .de s

/-- `DEC DE` (R163). -/
def exec_dec_DE (s : State) : Result := decPair config (.base 0x1B) .de s

/-- `INC HL` (R162). -/
def exec_inc_HL (s : State) : Result := incPair config (.base 0x23) .hl s

/-- `ADD HL,HL` (R160). -/
def exec_add_HL_HL (s : State) : Result := addHlPair config (.base 0x29) .hl s

/-- `DEC HL` (R163). -/
def exec_dec_HL (s : State) : Result := decPair config (.base 0x2B) .hl s

/-- `INC SP` (R162). -/
def exec_inc_SP (s : State) : Result := incPair config (.base 0x33) .sp s

/-- `ADD HL,SP` (R160). -/
def exec_add_HL_SP (s : State) : Result := addHlPair config (.base 0x39) .sp s

/-- `DEC SP` (R163). -/
def exec_dec_SP (s : State) : Result := decPair config (.base 0x3B) .sp s

/-- `ADD SP,e` (R161). -/
def exec_add_SP_e (e : Byte) (s : State) : Result := addSpRel config (.base 0xE8) e s

end Sys2Proof.Machine
end

