-- ==== Sys2Proof/Machine/Alu8.lean ====
section
/-! DEFINITION. 8-bit arithmetic and logic (40_alu8.md): the shared operations, then one meaning per instruction. -/
namespace Sys2Proof.Machine

/-- One of the eight operations on A with second operand `v` (R120): A and F as `alu8` gives them. -/
def aluA (o : AluOp) (v : Byte) (s : State) : State :=
  { s with a := (alu8 o s.a v s.flagC).value, f := (alu8 o s.a v s.flagC).flags }

/-- Form r of R120. -/
def aluReg (cfg : Config) (op : Opcode) (o : AluOp) (r : Reg8) (s : State) : Result :=
  .next (retire cfg op 1 (aluA o (s.reg r) s))

/-- Form (HL) of R120. -/
def aluHl (cfg : Config) (op : Opcode) (o : AluOp) (s : State) : Result :=
  .next (retire cfg op 1 (aluA o (s.rd s.hl) s))

/-- Form n of R120. -/
def aluImm (cfg : Config) (op : Opcode) (o : AluOp) (n : Byte) (s : State) : Result :=
  .next (retire cfg op 2 (aluA o n s))

/-- `INC r` and `DEC r` (R145, R147) for the byte operation given. -/
def stepReg (cfg : Config) (op : Opcode) (g : Byte → Bool → Flagged) (r : Reg8) (s : State) : Result :=
  .next (retire cfg op 1 (State.setReg { s with f := (g (s.reg r) s.flagC).flags } r (g (s.reg r) s.flagC).value))

/-- `INC (HL)` and `DEC (HL)` (R146, R148): the flags are those of the value computed, also where the store is to DIV. -/
def stepHl (cfg : Config) (op : Opcode) (g : Byte → Bool → Flagged) (s : State) : Result :=
  .next (retire cfg op 1
    (memWrite cfg s.hl (g (s.rd s.hl) s.flagC).value { s with f := (g (s.rd s.hl) s.flagC).flags }))

/-- An operation on A alone (DAA, CPL, SCF, CCF; R149 to R152): A and F as given. -/
def accumulator (cfg : Config) (op : Opcode) (r : Flagged) (s : State) : Result :=
  .next (retire cfg op 1 { s with a := r.value, f := r.flags })

/-! ### The meanings -/

/-- `INC B` (R145). -/
def exec_inc_B (s : State) : Result := stepReg config (.base 0x04) inc8 .b s

/-- `DEC B` (R147). -/
def exec_dec_B (s : State) : Result := stepReg config (.base 0x05) dec8 .b s

/-- `INC C` (R145). -/
def exec_inc_C (s : State) : Result := stepReg config (.base 0x0C) inc8 .c s

/-- `DEC C` (R147). -/
def exec_dec_C (s : State) : Result := stepReg config (.base 0x0D) dec8 .c s

/-- `INC D` (R145). -/
def exec_inc_D (s : State) : Result := stepReg config (.base 0x14) inc8 .d s

/-- `DEC D` (R147). -/
def exec_dec_D (s : State) : Result := stepReg config (.base 0x15) dec8 .d s

/-- `INC E` (R145). -/
def exec_inc_E (s : State) : Result := stepReg config (.base 0x1C) inc8 .e s

/-- `DEC E` (R147). -/
def exec_dec_E (s : State) : Result := stepReg config (.base 0x1D) dec8 .e s

/-- `INC H` (R145). -/
def exec_inc_H (s : State) : Result := stepReg config (.base 0x24) inc8 .h s

/-- `DEC H` (R147). -/
def exec_dec_H (s : State) : Result := stepReg config (.base 0x25) dec8 .h s

/-- `DAA` (R149). -/
def exec_daa (s : State) : Result := accumulator config (.base 0x27) (daa8 s.a s.flagN s.flagH s.flagC) s

/-- `INC L` (R145). -/
def exec_inc_L (s : State) : Result := stepReg config (.base 0x2C) inc8 .l s

/-- `DEC L` (R147). -/
def exec_dec_L (s : State) : Result := stepReg config (.base 0x2D) dec8 .l s

/-- `CPL` (R150). -/
def exec_cpl (s : State) : Result := accumulator config (.base 0x2F) ⟨~~~s.a, packF s.flagZ true true s.flagC⟩ s

/-- `INC (HL)` (R146). -/
def exec_inc_atHL (s : State) : Result := stepHl config (.base 0x34) inc8 s

/-- `DEC (HL)` (R148). -/
def exec_dec_atHL (s : State) : Result := stepHl config (.base 0x35) dec8 s

/-- `SCF` (R151). -/
def exec_scf (s : State) : Result := accumulator config (.base 0x37) ⟨s.a, packF s.flagZ false false true⟩ s

/-- `INC A` (R145). -/
def exec_inc_A (s : State) : Result := stepReg config (.base 0x3C) inc8 .a s

/-- `DEC A` (R147). -/
def exec_dec_A (s : State) : Result := stepReg config (.base 0x3D) dec8 .a s

/-- `CCF` (R152). -/
def exec_ccf (s : State) : Result := accumulator config (.base 0x3F) ⟨s.a, packF s.flagZ false false (!s.flagC)⟩ s

/-- `ADD A,B` (R121). -/
def exec_add_A_B (s : State) : Result := aluReg config (.base 0x80) .add .b s

/-- `ADD A,C` (R121). -/
def exec_add_A_C (s : State) : Result := aluReg config (.base 0x81) .add .c s

/-- `ADD A,D` (R121). -/
def exec_add_A_D (s : State) : Result := aluReg config (.base 0x82) .add .d s

/-- `ADD A,E` (R121). -/
def exec_add_A_E (s : State) : Result := aluReg config (.base 0x83) .add .e s

/-- `ADD A,H` (R121). -/
def exec_add_A_H (s : State) : Result := aluReg config (.base 0x84) .add .h s

/-- `ADD A,L` (R121). -/
def exec_add_A_L (s : State) : Result := aluReg config (.base 0x85) .add .l s

/-- `ADD A,(HL)` (R122). -/
def exec_add_A_atHL (s : State) : Result := aluHl config (.base 0x86) .add s

/-- `ADD A,A` (R121). -/
def exec_add_A_A (s : State) : Result := aluReg config (.base 0x87) .add .a s

/-- `ADC A,B` (R124). -/
def exec_adc_A_B (s : State) : Result := aluReg config (.base 0x88) .adc .b s

/-- `ADC A,C` (R124). -/
def exec_adc_A_C (s : State) : Result := aluReg config (.base 0x89) .adc .c s

/-- `ADC A,D` (R124). -/
def exec_adc_A_D (s : State) : Result := aluReg config (.base 0x8A) .adc .d s

/-- `ADC A,E` (R124). -/
def exec_adc_A_E (s : State) : Result := aluReg config (.base 0x8B) .adc .e s

/-- `ADC A,H` (R124). -/
def exec_adc_A_H (s : State) : Result := aluReg config (.base 0x8C) .adc .h s

/-- `ADC A,L` (R124). -/
def exec_adc_A_L (s : State) : Result := aluReg config (.base 0x8D) .adc .l s

/-- `ADC A,(HL)` (R125). -/
def exec_adc_A_atHL (s : State) : Result := aluHl config (.base 0x8E) .adc s

/-- `ADC A,A` (R124). -/
def exec_adc_A_A (s : State) : Result := aluReg config (.base 0x8F) .adc .a s

/-- `SUB B` (R127). -/
def exec_sub_B (s : State) : Result := aluReg config (.base 0x90) .sub .b s

/-- `SUB C` (R127). -/
def exec_sub_C (s : State) : Result := aluReg config (.base 0x91) .sub .c s

/-- `SUB D` (R127). -/
def exec_sub_D (s : State) : Result := aluReg config (.base 0x92) .sub .d s

/-- `SUB E` (R127). -/
def exec_sub_E (s : State) : Result := aluReg config (.base 0x93) .sub .e s

/-- `SUB H` (R127). -/
def exec_sub_H (s : State) : Result := aluReg config (.base 0x94) .sub .h s

/-- `SUB L` (R127). -/
def exec_sub_L (s : State) : Result := aluReg config (.base 0x95) .sub .l s

/-- `SUB (HL)` (R128). -/
def exec_sub_atHL (s : State) : Result := aluHl config (.base 0x96) .sub s

/-- `SUB A` (R127). -/
def exec_sub_A (s : State) : Result := aluReg config (.base 0x97) .sub .a s

/-- `SBC A,B` (R130). -/
def exec_sbc_A_B (s : State) : Result := aluReg config (.base 0x98) .sbc .b s

/-- `SBC A,C` (R130). -/
def exec_sbc_A_C (s : State) : Result := aluReg config (.base 0x99) .sbc .c s

/-- `SBC A,D` (R130). -/
def exec_sbc_A_D (s : State) : Result := aluReg config (.base 0x9A) .sbc .d s

/-- `SBC A,E` (R130). -/
def exec_sbc_A_E (s : State) : Result := aluReg config (.base 0x9B) .sbc .e s

/-- `SBC A,H` (R130). -/
def exec_sbc_A_H (s : State) : Result := aluReg config (.base 0x9C) .sbc .h s

/-- `SBC A,L` (R130). -/
def exec_sbc_A_L (s : State) : Result := aluReg config (.base 0x9D) .sbc .l s

/-- `SBC A,(HL)` (R131). -/
def exec_sbc_A_atHL (s : State) : Result := aluHl config (.base 0x9E) .sbc s

/-- `SBC A,A` (R130). -/
def exec_sbc_A_A (s : State) : Result := aluReg config (.base 0x9F) .sbc .a s

/-- `AND B` (R133). -/
def exec_and_B (s : State) : Result := aluReg config (.base 0xA0) .and .b s

/-- `AND C` (R133). -/
def exec_and_C (s : State) : Result := aluReg config (.base 0xA1) .and .c s

/-- `AND D` (R133). -/
def exec_and_D (s : State) : Result := aluReg config (.base 0xA2) .and .d s

/-- `AND E` (R133). -/
def exec_and_E (s : State) : Result := aluReg config (.base 0xA3) .and .e s

/-- `AND H` (R133). -/
def exec_and_H (s : State) : Result := aluReg config (.base 0xA4) .and .h s

/-- `AND L` (R133). -/
def exec_and_L (s : State) : Result := aluReg config (.base 0xA5) .and .l s

/-- `AND (HL)` (R134). -/
def exec_and_atHL (s : State) : Result := aluHl config (.base 0xA6) .and s

/-- `AND A` (R133). -/
def exec_and_A (s : State) : Result := aluReg config (.base 0xA7) .and .a s

/-- `XOR B` (R136). -/
def exec_xor_B (s : State) : Result := aluReg config (.base 0xA8) .xor .b s

/-- `XOR C` (R136). -/
def exec_xor_C (s : State) : Result := aluReg config (.base 0xA9) .xor .c s

/-- `XOR D` (R136). -/
def exec_xor_D (s : State) : Result := aluReg config (.base 0xAA) .xor .d s

/-- `XOR E` (R136). -/
def exec_xor_E (s : State) : Result := aluReg config (.base 0xAB) .xor .e s

/-- `XOR H` (R136). -/
def exec_xor_H (s : State) : Result := aluReg config (.base 0xAC) .xor .h s

/-- `XOR L` (R136). -/
def exec_xor_L (s : State) : Result := aluReg config (.base 0xAD) .xor .l s

/-- `XOR (HL)` (R137). -/
def exec_xor_atHL (s : State) : Result := aluHl config (.base 0xAE) .xor s

/-- `XOR A` (R136). -/
def exec_xor_A (s : State) : Result := aluReg config (.base 0xAF) .xor .a s

/-- `OR B` (R139). -/
def exec_or_B (s : State) : Result := aluReg config (.base 0xB0) .or .b s

/-- `OR C` (R139). -/
def exec_or_C (s : State) : Result := aluReg config (.base 0xB1) .or .c s

/-- `OR D` (R139). -/
def exec_or_D (s : State) : Result := aluReg config (.base 0xB2) .or .d s

/-- `OR E` (R139). -/
def exec_or_E (s : State) : Result := aluReg config (.base 0xB3) .or .e s

/-- `OR H` (R139). -/
def exec_or_H (s : State) : Result := aluReg config (.base 0xB4) .or .h s

/-- `OR L` (R139). -/
def exec_or_L (s : State) : Result := aluReg config (.base 0xB5) .or .l s

/-- `OR (HL)` (R140). -/
def exec_or_atHL (s : State) : Result := aluHl config (.base 0xB6) .or s

/-- `OR A` (R139). -/
def exec_or_A (s : State) : Result := aluReg config (.base 0xB7) .or .a s

/-- `CP B` (R142). -/
def exec_cp_B (s : State) : Result := aluReg config (.base 0xB8) .cp .b s

/-- `CP C` (R142). -/
def exec_cp_C (s : State) : Result := aluReg config (.base 0xB9) .cp .c s

/-- `CP D` (R142). -/
def exec_cp_D (s : State) : Result := aluReg config (.base 0xBA) .cp .d s

/-- `CP E` (R142). -/
def exec_cp_E (s : State) : Result := aluReg config (.base 0xBB) .cp .e s

/-- `CP H` (R142). -/
def exec_cp_H (s : State) : Result := aluReg config (.base 0xBC) .cp .h s

/-- `CP L` (R142). -/
def exec_cp_L (s : State) : Result := aluReg config (.base 0xBD) .cp .l s

/-- `CP (HL)` (R143). -/
def exec_cp_atHL (s : State) : Result := aluHl config (.base 0xBE) .cp s

/-- `CP A` (R142). -/
def exec_cp_A (s : State) : Result := aluReg config (.base 0xBF) .cp .a s

/-- `ADD A,n` (R123). -/
def exec_add_A_n (n : Byte) (s : State) : Result := aluImm config (.base 0xC6) .add n s

/-- `ADC A,n` (R126). -/
def exec_adc_A_n (n : Byte) (s : State) : Result := aluImm config (.base 0xCE) .adc n s

/-- `SUB n` (R129). -/
def exec_sub_n (n : Byte) (s : State) : Result := aluImm config (.base 0xD6) .sub n s

/-- `SBC A,n` (R132). -/
def exec_sbc_A_n (n : Byte) (s : State) : Result := aluImm config (.base 0xDE) .sbc n s

/-- `AND n` (R135). -/
def exec_and_n (n : Byte) (s : State) : Result := aluImm config (.base 0xE6) .and n s

/-- `XOR n` (R138). -/
def exec_xor_n (n : Byte) (s : State) : Result := aluImm config (.base 0xEE) .xor n s

/-- `OR n` (R141). -/
def exec_or_n (n : Byte) (s : State) : Result := aluImm config (.base 0xF6) .or n s

/-- `CP n` (R144). -/
def exec_cp_n (n : Byte) (s : State) : Result := aluImm config (.base 0xFE) .cp n s

end Sys2Proof.Machine
end

