-- ==== Sys2Proof/Machine/BitOps.lean ====
section
/-! DEFINITION. BIT, RES and SET (42_rotate_shift_bit.md, section 4): the shared operations, then one meaning per instruction. -/
namespace Sys2Proof.Machine

/-- `BIT b,r` (R191). -/
def bitReg (cfg : Config) (op : Opcode) (i : Nat) (r : Reg8) (s : State) : Result :=
  .next (retire cfg op 2 { s with f := bitFlags i (s.reg r) s.flagC })

/-- `BIT b,(HL)` (R192): memory is not written. -/
def bitHl (cfg : Config) (op : Opcode) (i : Nat) (s : State) : Result :=
  .next (retire cfg op 2 { s with f := bitFlags i (s.rd s.hl) s.flagC })

/-- `RES b,r` (R193). -/
def resReg (cfg : Config) (op : Opcode) (i : Nat) (r : Reg8) (s : State) : Result :=
  .next (retire cfg op 2 (s.setReg r (clearBit8 (s.reg r) i)))

/-- `RES b,(HL)` (R194): the write happens also when the bit was 0. -/
def resHl (cfg : Config) (op : Opcode) (i : Nat) (s : State) : Result :=
  .next (retire cfg op 2 (memWrite cfg s.hl (clearBit8 (s.rd s.hl) i) s))

/-- `SET b,r` (R195). -/
def setBitReg (cfg : Config) (op : Opcode) (i : Nat) (r : Reg8) (s : State) : Result :=
  .next (retire cfg op 2 (s.setReg r (setBit8 (s.reg r) i)))

/-- `SET b,(HL)` (R196). -/
def setBitHl (cfg : Config) (op : Opcode) (i : Nat) (s : State) : Result :=
  .next (retire cfg op 2 (memWrite cfg s.hl (setBit8 (s.rd s.hl) i) s))

/-! ### The meanings -/

/-- `BIT 0,B` (R191). -/
def exec_bit_0_B (s : State) : Result := bitReg config (.ext 0x40) 0 .b s

/-- `BIT 0,C` (R191). -/
def exec_bit_0_C (s : State) : Result := bitReg config (.ext 0x41) 0 .c s

/-- `BIT 0,D` (R191). -/
def exec_bit_0_D (s : State) : Result := bitReg config (.ext 0x42) 0 .d s

/-- `BIT 0,E` (R191). -/
def exec_bit_0_E (s : State) : Result := bitReg config (.ext 0x43) 0 .e s

/-- `BIT 0,H` (R191). -/
def exec_bit_0_H (s : State) : Result := bitReg config (.ext 0x44) 0 .h s

/-- `BIT 0,L` (R191). -/
def exec_bit_0_L (s : State) : Result := bitReg config (.ext 0x45) 0 .l s

/-- `BIT 0,(HL)` (R192). -/
def exec_bit_0_atHL (s : State) : Result := bitHl config (.ext 0x46) 0 s

/-- `BIT 0,A` (R191). -/
def exec_bit_0_A (s : State) : Result := bitReg config (.ext 0x47) 0 .a s

/-- `BIT 1,B` (R191). -/
def exec_bit_1_B (s : State) : Result := bitReg config (.ext 0x48) 1 .b s

/-- `BIT 1,C` (R191). -/
def exec_bit_1_C (s : State) : Result := bitReg config (.ext 0x49) 1 .c s

/-- `BIT 1,D` (R191). -/
def exec_bit_1_D (s : State) : Result := bitReg config (.ext 0x4A) 1 .d s

/-- `BIT 1,E` (R191). -/
def exec_bit_1_E (s : State) : Result := bitReg config (.ext 0x4B) 1 .e s

/-- `BIT 1,H` (R191). -/
def exec_bit_1_H (s : State) : Result := bitReg config (.ext 0x4C) 1 .h s

/-- `BIT 1,L` (R191). -/
def exec_bit_1_L (s : State) : Result := bitReg config (.ext 0x4D) 1 .l s

/-- `BIT 1,(HL)` (R192). -/
def exec_bit_1_atHL (s : State) : Result := bitHl config (.ext 0x4E) 1 s

/-- `BIT 1,A` (R191). -/
def exec_bit_1_A (s : State) : Result := bitReg config (.ext 0x4F) 1 .a s

/-- `BIT 2,B` (R191). -/
def exec_bit_2_B (s : State) : Result := bitReg config (.ext 0x50) 2 .b s

/-- `BIT 2,C` (R191). -/
def exec_bit_2_C (s : State) : Result := bitReg config (.ext 0x51) 2 .c s

/-- `BIT 2,D` (R191). -/
def exec_bit_2_D (s : State) : Result := bitReg config (.ext 0x52) 2 .d s

/-- `BIT 2,E` (R191). -/
def exec_bit_2_E (s : State) : Result := bitReg config (.ext 0x53) 2 .e s

/-- `BIT 2,H` (R191). -/
def exec_bit_2_H (s : State) : Result := bitReg config (.ext 0x54) 2 .h s

/-- `BIT 2,L` (R191). -/
def exec_bit_2_L (s : State) : Result := bitReg config (.ext 0x55) 2 .l s

/-- `BIT 2,(HL)` (R192). -/
def exec_bit_2_atHL (s : State) : Result := bitHl config (.ext 0x56) 2 s

/-- `BIT 2,A` (R191). -/
def exec_bit_2_A (s : State) : Result := bitReg config (.ext 0x57) 2 .a s

/-- `BIT 3,B` (R191). -/
def exec_bit_3_B (s : State) : Result := bitReg config (.ext 0x58) 3 .b s

/-- `BIT 3,C` (R191). -/
def exec_bit_3_C (s : State) : Result := bitReg config (.ext 0x59) 3 .c s

/-- `BIT 3,D` (R191). -/
def exec_bit_3_D (s : State) : Result := bitReg config (.ext 0x5A) 3 .d s

/-- `BIT 3,E` (R191). -/
def exec_bit_3_E (s : State) : Result := bitReg config (.ext 0x5B) 3 .e s

/-- `BIT 3,H` (R191). -/
def exec_bit_3_H (s : State) : Result := bitReg config (.ext 0x5C) 3 .h s

/-- `BIT 3,L` (R191). -/
def exec_bit_3_L (s : State) : Result := bitReg config (.ext 0x5D) 3 .l s

/-- `BIT 3,(HL)` (R192). -/
def exec_bit_3_atHL (s : State) : Result := bitHl config (.ext 0x5E) 3 s

/-- `BIT 3,A` (R191). -/
def exec_bit_3_A (s : State) : Result := bitReg config (.ext 0x5F) 3 .a s

/-- `BIT 4,B` (R191). -/
def exec_bit_4_B (s : State) : Result := bitReg config (.ext 0x60) 4 .b s

/-- `BIT 4,C` (R191). -/
def exec_bit_4_C (s : State) : Result := bitReg config (.ext 0x61) 4 .c s

/-- `BIT 4,D` (R191). -/
def exec_bit_4_D (s : State) : Result := bitReg config (.ext 0x62) 4 .d s

/-- `BIT 4,E` (R191). -/
def exec_bit_4_E (s : State) : Result := bitReg config (.ext 0x63) 4 .e s

/-- `BIT 4,H` (R191). -/
def exec_bit_4_H (s : State) : Result := bitReg config (.ext 0x64) 4 .h s

/-- `BIT 4,L` (R191). -/
def exec_bit_4_L (s : State) : Result := bitReg config (.ext 0x65) 4 .l s

/-- `BIT 4,(HL)` (R192). -/
def exec_bit_4_atHL (s : State) : Result := bitHl config (.ext 0x66) 4 s

/-- `BIT 4,A` (R191). -/
def exec_bit_4_A (s : State) : Result := bitReg config (.ext 0x67) 4 .a s

/-- `BIT 5,B` (R191). -/
def exec_bit_5_B (s : State) : Result := bitReg config (.ext 0x68) 5 .b s

/-- `BIT 5,C` (R191). -/
def exec_bit_5_C (s : State) : Result := bitReg config (.ext 0x69) 5 .c s

/-- `BIT 5,D` (R191). -/
def exec_bit_5_D (s : State) : Result := bitReg config (.ext 0x6A) 5 .d s

/-- `BIT 5,E` (R191). -/
def exec_bit_5_E (s : State) : Result := bitReg config (.ext 0x6B) 5 .e s

/-- `BIT 5,H` (R191). -/
def exec_bit_5_H (s : State) : Result := bitReg config (.ext 0x6C) 5 .h s

/-- `BIT 5,L` (R191). -/
def exec_bit_5_L (s : State) : Result := bitReg config (.ext 0x6D) 5 .l s

/-- `BIT 5,(HL)` (R192). -/
def exec_bit_5_atHL (s : State) : Result := bitHl config (.ext 0x6E) 5 s

/-- `BIT 5,A` (R191). -/
def exec_bit_5_A (s : State) : Result := bitReg config (.ext 0x6F) 5 .a s

/-- `BIT 6,B` (R191). -/
def exec_bit_6_B (s : State) : Result := bitReg config (.ext 0x70) 6 .b s

/-- `BIT 6,C` (R191). -/
def exec_bit_6_C (s : State) : Result := bitReg config (.ext 0x71) 6 .c s

/-- `BIT 6,D` (R191). -/
def exec_bit_6_D (s : State) : Result := bitReg config (.ext 0x72) 6 .d s

/-- `BIT 6,E` (R191). -/
def exec_bit_6_E (s : State) : Result := bitReg config (.ext 0x73) 6 .e s

/-- `BIT 6,H` (R191). -/
def exec_bit_6_H (s : State) : Result := bitReg config (.ext 0x74) 6 .h s

/-- `BIT 6,L` (R191). -/
def exec_bit_6_L (s : State) : Result := bitReg config (.ext 0x75) 6 .l s

/-- `BIT 6,(HL)` (R192). -/
def exec_bit_6_atHL (s : State) : Result := bitHl config (.ext 0x76) 6 s

/-- `BIT 6,A` (R191). -/
def exec_bit_6_A (s : State) : Result := bitReg config (.ext 0x77) 6 .a s

/-- `BIT 7,B` (R191). -/
def exec_bit_7_B (s : State) : Result := bitReg config (.ext 0x78) 7 .b s

/-- `BIT 7,C` (R191). -/
def exec_bit_7_C (s : State) : Result := bitReg config (.ext 0x79) 7 .c s

/-- `BIT 7,D` (R191). -/
def exec_bit_7_D (s : State) : Result := bitReg config (.ext 0x7A) 7 .d s

/-- `BIT 7,E` (R191). -/
def exec_bit_7_E (s : State) : Result := bitReg config (.ext 0x7B) 7 .e s

/-- `BIT 7,H` (R191). -/
def exec_bit_7_H (s : State) : Result := bitReg config (.ext 0x7C) 7 .h s

/-- `BIT 7,L` (R191). -/
def exec_bit_7_L (s : State) : Result := bitReg config (.ext 0x7D) 7 .l s

/-- `BIT 7,(HL)` (R192). -/
def exec_bit_7_atHL (s : State) : Result := bitHl config (.ext 0x7E) 7 s

/-- `BIT 7,A` (R191). -/
def exec_bit_7_A (s : State) : Result := bitReg config (.ext 0x7F) 7 .a s

/-- `RES 0,B` (R193). -/
def exec_res_0_B (s : State) : Result := resReg config (.ext 0x80) 0 .b s

/-- `RES 0,C` (R193). -/
def exec_res_0_C (s : State) : Result := resReg config (.ext 0x81) 0 .c s

/-- `RES 0,D` (R193). -/
def exec_res_0_D (s : State) : Result := resReg config (.ext 0x82) 0 .d s

/-- `RES 0,E` (R193). -/
def exec_res_0_E (s : State) : Result := resReg config (.ext 0x83) 0 .e s

/-- `RES 0,H` (R193). -/
def exec_res_0_H (s : State) : Result := resReg config (.ext 0x84) 0 .h s

/-- `RES 0,L` (R193). -/
def exec_res_0_L (s : State) : Result := resReg config (.ext 0x85) 0 .l s

/-- `RES 0,(HL)` (R194). -/
def exec_res_0_atHL (s : State) : Result := resHl config (.ext 0x86) 0 s

/-- `RES 0,A` (R193). -/
def exec_res_0_A (s : State) : Result := resReg config (.ext 0x87) 0 .a s

/-- `RES 1,B` (R193). -/
def exec_res_1_B (s : State) : Result := resReg config (.ext 0x88) 1 .b s

/-- `RES 1,C` (R193). -/
def exec_res_1_C (s : State) : Result := resReg config (.ext 0x89) 1 .c s

/-- `RES 1,D` (R193). -/
def exec_res_1_D (s : State) : Result := resReg config (.ext 0x8A) 1 .d s

/-- `RES 1,E` (R193). -/
def exec_res_1_E (s : State) : Result := resReg config (.ext 0x8B) 1 .e s

/-- `RES 1,H` (R193). -/
def exec_res_1_H (s : State) : Result := resReg config (.ext 0x8C) 1 .h s

/-- `RES 1,L` (R193). -/
def exec_res_1_L (s : State) : Result := resReg config (.ext 0x8D) 1 .l s

/-- `RES 1,(HL)` (R194). -/
def exec_res_1_atHL (s : State) : Result := resHl config (.ext 0x8E) 1 s

/-- `RES 1,A` (R193). -/
def exec_res_1_A (s : State) : Result := resReg config (.ext 0x8F) 1 .a s

/-- `RES 2,B` (R193). -/
def exec_res_2_B (s : State) : Result := resReg config (.ext 0x90) 2 .b s

/-- `RES 2,C` (R193). -/
def exec_res_2_C (s : State) : Result := resReg config (.ext 0x91) 2 .c s

/-- `RES 2,D` (R193). -/
def exec_res_2_D (s : State) : Result := resReg config (.ext 0x92) 2 .d s

/-- `RES 2,E` (R193). -/
def exec_res_2_E (s : State) : Result := resReg config (.ext 0x93) 2 .e s

/-- `RES 2,H` (R193). -/
def exec_res_2_H (s : State) : Result := resReg config (.ext 0x94) 2 .h s

/-- `RES 2,L` (R193). -/
def exec_res_2_L (s : State) : Result := resReg config (.ext 0x95) 2 .l s

/-- `RES 2,(HL)` (R194). -/
def exec_res_2_atHL (s : State) : Result := resHl config (.ext 0x96) 2 s

/-- `RES 2,A` (R193). -/
def exec_res_2_A (s : State) : Result := resReg config (.ext 0x97) 2 .a s

/-- `RES 3,B` (R193). -/
def exec_res_3_B (s : State) : Result := resReg config (.ext 0x98) 3 .b s

/-- `RES 3,C` (R193). -/
def exec_res_3_C (s : State) : Result := resReg config (.ext 0x99) 3 .c s

/-- `RES 3,D` (R193). -/
def exec_res_3_D (s : State) : Result := resReg config (.ext 0x9A) 3 .d s

/-- `RES 3,E` (R193). -/
def exec_res_3_E (s : State) : Result := resReg config (.ext 0x9B) 3 .e s

/-- `RES 3,H` (R193). -/
def exec_res_3_H (s : State) : Result := resReg config (.ext 0x9C) 3 .h s

/-- `RES 3,L` (R193). -/
def exec_res_3_L (s : State) : Result := resReg config (.ext 0x9D) 3 .l s

/-- `RES 3,(HL)` (R194). -/
def exec_res_3_atHL (s : State) : Result := resHl config (.ext 0x9E) 3 s

/-- `RES 3,A` (R193). -/
def exec_res_3_A (s : State) : Result := resReg config (.ext 0x9F) 3 .a s

/-- `RES 4,B` (R193). -/
def exec_res_4_B (s : State) : Result := resReg config (.ext 0xA0) 4 .b s

/-- `RES 4,C` (R193). -/
def exec_res_4_C (s : State) : Result := resReg config (.ext 0xA1) 4 .c s

/-- `RES 4,D` (R193). -/
def exec_res_4_D (s : State) : Result := resReg config (.ext 0xA2) 4 .d s

/-- `RES 4,E` (R193). -/
def exec_res_4_E (s : State) : Result := resReg config (.ext 0xA3) 4 .e s

/-- `RES 4,H` (R193). -/
def exec_res_4_H (s : State) : Result := resReg config (.ext 0xA4) 4 .h s

/-- `RES 4,L` (R193). -/
def exec_res_4_L (s : State) : Result := resReg config (.ext 0xA5) 4 .l s

/-- `RES 4,(HL)` (R194). -/
def exec_res_4_atHL (s : State) : Result := resHl config (.ext 0xA6) 4 s

/-- `RES 4,A` (R193). -/
def exec_res_4_A (s : State) : Result := resReg config (.ext 0xA7) 4 .a s

/-- `RES 5,B` (R193). -/
def exec_res_5_B (s : State) : Result := resReg config (.ext 0xA8) 5 .b s

/-- `RES 5,C` (R193). -/
def exec_res_5_C (s : State) : Result := resReg config (.ext 0xA9) 5 .c s

/-- `RES 5,D` (R193). -/
def exec_res_5_D (s : State) : Result := resReg config (.ext 0xAA) 5 .d s

/-- `RES 5,E` (R193). -/
def exec_res_5_E (s : State) : Result := resReg config (.ext 0xAB) 5 .e s

/-- `RES 5,H` (R193). -/
def exec_res_5_H (s : State) : Result := resReg config (.ext 0xAC) 5 .h s

/-- `RES 5,L` (R193). -/
def exec_res_5_L (s : State) : Result := resReg config (.ext 0xAD) 5 .l s

/-- `RES 5,(HL)` (R194). -/
def exec_res_5_atHL (s : State) : Result := resHl config (.ext 0xAE) 5 s

/-- `RES 5,A` (R193). -/
def exec_res_5_A (s : State) : Result := resReg config (.ext 0xAF) 5 .a s

/-- `RES 6,B` (R193). -/
def exec_res_6_B (s : State) : Result := resReg config (.ext 0xB0) 6 .b s

/-- `RES 6,C` (R193). -/
def exec_res_6_C (s : State) : Result := resReg config (.ext 0xB1) 6 .c s

/-- `RES 6,D` (R193). -/
def exec_res_6_D (s : State) : Result := resReg config (.ext 0xB2) 6 .d s

/-- `RES 6,E` (R193). -/
def exec_res_6_E (s : State) : Result := resReg config (.ext 0xB3) 6 .e s

/-- `RES 6,H` (R193). -/
def exec_res_6_H (s : State) : Result := resReg config (.ext 0xB4) 6 .h s

/-- `RES 6,L` (R193). -/
def exec_res_6_L (s : State) : Result := resReg config (.ext 0xB5) 6 .l s

/-- `RES 6,(HL)` (R194). -/
def exec_res_6_atHL (s : State) : Result := resHl config (.ext 0xB6) 6 s

/-- `RES 6,A` (R193). -/
def exec_res_6_A (s : State) : Result := resReg config (.ext 0xB7) 6 .a s

/-- `RES 7,B` (R193). -/
def exec_res_7_B (s : State) : Result := resReg config (.ext 0xB8) 7 .b s

/-- `RES 7,C` (R193). -/
def exec_res_7_C (s : State) : Result := resReg config (.ext 0xB9) 7 .c s

/-- `RES 7,D` (R193). -/
def exec_res_7_D (s : State) : Result := resReg config (.ext 0xBA) 7 .d s

/-- `RES 7,E` (R193). -/
def exec_res_7_E (s : State) : Result := resReg config (.ext 0xBB) 7 .e s

/-- `RES 7,H` (R193). -/
def exec_res_7_H (s : State) : Result := resReg config (.ext 0xBC) 7 .h s

/-- `RES 7,L` (R193). -/
def exec_res_7_L (s : State) : Result := resReg config (.ext 0xBD) 7 .l s

/-- `RES 7,(HL)` (R194). -/
def exec_res_7_atHL (s : State) : Result := resHl config (.ext 0xBE) 7 s

/-- `RES 7,A` (R193). -/
def exec_res_7_A (s : State) : Result := resReg config (.ext 0xBF) 7 .a s

/-- `SET 0,B` (R195). -/
def exec_set_0_B (s : State) : Result := setBitReg config (.ext 0xC0) 0 .b s

/-- `SET 0,C` (R195). -/
def exec_set_0_C (s : State) : Result := setBitReg config (.ext 0xC1) 0 .c s

/-- `SET 0,D` (R195). -/
def exec_set_0_D (s : State) : Result := setBitReg config (.ext 0xC2) 0 .d s

/-- `SET 0,E` (R195). -/
def exec_set_0_E (s : State) : Result := setBitReg config (.ext 0xC3) 0 .e s

/-- `SET 0,H` (R195). -/
def exec_set_0_H (s : State) : Result := setBitReg config (.ext 0xC4) 0 .h s

/-- `SET 0,L` (R195). -/
def exec_set_0_L (s : State) : Result := setBitReg config (.ext 0xC5) 0 .l s

/-- `SET 0,(HL)` (R196). -/
def exec_set_0_atHL (s : State) : Result := setBitHl config (.ext 0xC6) 0 s

/-- `SET 0,A` (R195). -/
def exec_set_0_A (s : State) : Result := setBitReg config (.ext 0xC7) 0 .a s

/-- `SET 1,B` (R195). -/
def exec_set_1_B (s : State) : Result := setBitReg config (.ext 0xC8) 1 .b s

/-- `SET 1,C` (R195). -/
def exec_set_1_C (s : State) : Result := setBitReg config (.ext 0xC9) 1 .c s

/-- `SET 1,D` (R195). -/
def exec_set_1_D (s : State) : Result := setBitReg config (.ext 0xCA) 1 .d s

/-- `SET 1,E` (R195). -/
def exec_set_1_E (s : State) : Result := setBitReg config (.ext 0xCB) 1 .e s

/-- `SET 1,H` (R195). -/
def exec_set_1_H (s : State) : Result := setBitReg config (.ext 0xCC) 1 .h s

/-- `SET 1,L` (R195). -/
def exec_set_1_L (s : State) : Result := setBitReg config (.ext 0xCD) 1 .l s

/-- `SET 1,(HL)` (R196). -/
def exec_set_1_atHL (s : State) : Result := setBitHl config (.ext 0xCE) 1 s

/-- `SET 1,A` (R195). -/
def exec_set_1_A (s : State) : Result := setBitReg config (.ext 0xCF) 1 .a s

/-- `SET 2,B` (R195). -/
def exec_set_2_B (s : State) : Result := setBitReg config (.ext 0xD0) 2 .b s

/-- `SET 2,C` (R195). -/
def exec_set_2_C (s : State) : Result := setBitReg config (.ext 0xD1) 2 .c s

/-- `SET 2,D` (R195). -/
def exec_set_2_D (s : State) : Result := setBitReg config (.ext 0xD2) 2 .d s

/-- `SET 2,E` (R195). -/
def exec_set_2_E (s : State) : Result := setBitReg config (.ext 0xD3) 2 .e s

/-- `SET 2,H` (R195). -/
def exec_set_2_H (s : State) : Result := setBitReg config (.ext 0xD4) 2 .h s

/-- `SET 2,L` (R195). -/
def exec_set_2_L (s : State) : Result := setBitReg config (.ext 0xD5) 2 .l s

/-- `SET 2,(HL)` (R196). -/
def exec_set_2_atHL (s : State) : Result := setBitHl config (.ext 0xD6) 2 s

/-- `SET 2,A` (R195). -/
def exec_set_2_A (s : State) : Result := setBitReg config (.ext 0xD7) 2 .a s

/-- `SET 3,B` (R195). -/
def exec_set_3_B (s : State) : Result := setBitReg config (.ext 0xD8) 3 .b s

/-- `SET 3,C` (R195). -/
def exec_set_3_C (s : State) : Result := setBitReg config (.ext 0xD9) 3 .c s

/-- `SET 3,D` (R195). -/
def exec_set_3_D (s : State) : Result := setBitReg config (.ext 0xDA) 3 .d s

/-- `SET 3,E` (R195). -/
def exec_set_3_E (s : State) : Result := setBitReg config (.ext 0xDB) 3 .e s

/-- `SET 3,H` (R195). -/
def exec_set_3_H (s : State) : Result := setBitReg config (.ext 0xDC) 3 .h s

/-- `SET 3,L` (R195). -/
def exec_set_3_L (s : State) : Result := setBitReg config (.ext 0xDD) 3 .l s

/-- `SET 3,(HL)` (R196). -/
def exec_set_3_atHL (s : State) : Result := setBitHl config (.ext 0xDE) 3 s

/-- `SET 3,A` (R195). -/
def exec_set_3_A (s : State) : Result := setBitReg config (.ext 0xDF) 3 .a s

/-- `SET 4,B` (R195). -/
def exec_set_4_B (s : State) : Result := setBitReg config (.ext 0xE0) 4 .b s

/-- `SET 4,C` (R195). -/
def exec_set_4_C (s : State) : Result := setBitReg config (.ext 0xE1) 4 .c s

/-- `SET 4,D` (R195). -/
def exec_set_4_D (s : State) : Result := setBitReg config (.ext 0xE2) 4 .d s

/-- `SET 4,E` (R195). -/
def exec_set_4_E (s : State) : Result := setBitReg config (.ext 0xE3) 4 .e s

/-- `SET 4,H` (R195). -/
def exec_set_4_H (s : State) : Result := setBitReg config (.ext 0xE4) 4 .h s

/-- `SET 4,L` (R195). -/
def exec_set_4_L (s : State) : Result := setBitReg config (.ext 0xE5) 4 .l s

/-- `SET 4,(HL)` (R196). -/
def exec_set_4_atHL (s : State) : Result := setBitHl config (.ext 0xE6) 4 s

/-- `SET 4,A` (R195). -/
def exec_set_4_A (s : State) : Result := setBitReg config (.ext 0xE7) 4 .a s

/-- `SET 5,B` (R195). -/
def exec_set_5_B (s : State) : Result := setBitReg config (.ext 0xE8) 5 .b s

/-- `SET 5,C` (R195). -/
def exec_set_5_C (s : State) : Result := setBitReg config (.ext 0xE9) 5 .c s

/-- `SET 5,D` (R195). -/
def exec_set_5_D (s : State) : Result := setBitReg config (.ext 0xEA) 5 .d s

/-- `SET 5,E` (R195). -/
def exec_set_5_E (s : State) : Result := setBitReg config (.ext 0xEB) 5 .e s

/-- `SET 5,H` (R195). -/
def exec_set_5_H (s : State) : Result := setBitReg config (.ext 0xEC) 5 .h s

/-- `SET 5,L` (R195). -/
def exec_set_5_L (s : State) : Result := setBitReg config (.ext 0xED) 5 .l s

/-- `SET 5,(HL)` (R196). -/
def exec_set_5_atHL (s : State) : Result := setBitHl config (.ext 0xEE) 5 s

/-- `SET 5,A` (R195). -/
def exec_set_5_A (s : State) : Result := setBitReg config (.ext 0xEF) 5 .a s

/-- `SET 6,B` (R195). -/
def exec_set_6_B (s : State) : Result := setBitReg config (.ext 0xF0) 6 .b s

/-- `SET 6,C` (R195). -/
def exec_set_6_C (s : State) : Result := setBitReg config (.ext 0xF1) 6 .c s

/-- `SET 6,D` (R195). -/
def exec_set_6_D (s : State) : Result := setBitReg config (.ext 0xF2) 6 .d s

/-- `SET 6,E` (R195). -/
def exec_set_6_E (s : State) : Result := setBitReg config (.ext 0xF3) 6 .e s

/-- `SET 6,H` (R195). -/
def exec_set_6_H (s : State) : Result := setBitReg config (.ext 0xF4) 6 .h s

/-- `SET 6,L` (R195). -/
def exec_set_6_L (s : State) : Result := setBitReg config (.ext 0xF5) 6 .l s

/-- `SET 6,(HL)` (R196). -/
def exec_set_6_atHL (s : State) : Result := setBitHl config (.ext 0xF6) 6 s

/-- `SET 6,A` (R195). -/
def exec_set_6_A (s : State) : Result := setBitReg config (.ext 0xF7) 6 .a s

/-- `SET 7,B` (R195). -/
def exec_set_7_B (s : State) : Result := setBitReg config (.ext 0xF8) 7 .b s

/-- `SET 7,C` (R195). -/
def exec_set_7_C (s : State) : Result := setBitReg config (.ext 0xF9) 7 .c s

/-- `SET 7,D` (R195). -/
def exec_set_7_D (s : State) : Result := setBitReg config (.ext 0xFA) 7 .d s

/-- `SET 7,E` (R195). -/
def exec_set_7_E (s : State) : Result := setBitReg config (.ext 0xFB) 7 .e s

/-- `SET 7,H` (R195). -/
def exec_set_7_H (s : State) : Result := setBitReg config (.ext 0xFC) 7 .h s

/-- `SET 7,L` (R195). -/
def exec_set_7_L (s : State) : Result := setBitReg config (.ext 0xFD) 7 .l s

/-- `SET 7,(HL)` (R196). -/
def exec_set_7_atHL (s : State) : Result := setBitHl config (.ext 0xFE) 7 s

/-- `SET 7,A` (R195). -/
def exec_set_7_A (s : State) : Result := setBitReg config (.ext 0xFF) 7 .a s

end Sys2Proof.Machine
end

