-- ==== Sys2Proof/Machine/Control.lean ====
section
/-! DEFINITION. Control transfer (43_control.md): the shared operations, then one meaning per instruction. A conditional form
counts the taken cost when its condition holds and the other cost when it does not (R213; D3). No one writes a flag (R200). -/
namespace Sys2Proof.Machine

/-- `JP nn` (R201), `JP HL` (R203). -/
def jump (cfg : Config) (op : Opcode) (target : Word) (s : State) : Result :=
  .next (transfer (cfg.cycles op true) target s)

/-- `JP cc,nn` (R202). -/
def jumpIf (cfg : Config) (op : Opcode) (cc : Cond) (nn : Word) (s : State) : Result :=
  .next (if s.cond cc then transfer (cfg.cycles op true) nn s else retireWith 3 (cfg.cycles op false) s)

/-- The target of a relative jump: `next` plus the signed displacement (R204, R212). -/
def relTarget (e : Byte) (s : State) : Word := nextPc 2 s + sext16 e

/-- `JR e` (R204). -/
def jumpRel (cfg : Config) (op : Opcode) (e : Byte) (s : State) : Result :=
  .next (transfer (cfg.cycles op true) (relTarget e s) s)

/-- `JR cc,e` (R205). -/
def jumpRelIf (cfg : Config) (op : Opcode) (cc : Cond) (e : Byte) (s : State) : Result :=
  .next (if s.cond cc then transfer (cfg.cycles op true) (relTarget e s) s else retireWith 2 (cfg.cycles op false) s)

/-- The link and the transfer of CALL and RST (R206, R211): `next` is pushed, then PC becomes the target. -/
def linkTo (cfg : Config) (len cost : Nat) (target : Word) (s : State) : State :=
  transfer cost target (push16 cfg (nextPc len s) s)

/-- `CALL nn` (R206). -/
def call (cfg : Config) (op : Opcode) (nn : Word) (s : State) : Result :=
  .next (linkTo cfg 3 (cfg.cycles op true) nn s)

/-- `CALL cc,nn` (R207): not taken, nothing is pushed. -/
def callIf (cfg : Config) (op : Opcode) (cc : Cond) (nn : Word) (s : State) : Result :=
  .next (if s.cond cc then linkTo cfg 3 (cfg.cycles op true) nn s else retireWith 3 (cfg.cycles op false) s)

/-- `RST t` (R211). -/
def restart (cfg : Config) (op : Opcode) (y : Code3) (s : State) : Result :=
  .next (linkTo cfg 1 (cfg.cycles op true) (cfg.rstTarget y) s)

/-- `RET` (R208). -/
def ret (cfg : Config) (op : Opcode) (s : State) : Result :=
  .next (transfer (cfg.cycles op true) (stackTop s) (dropTop s))

/-- `RET cc` (R209): not taken, SP is unchanged. -/
def retIf (cfg : Config) (op : Opcode) (cc : Cond) (s : State) : Result :=
  .next (if s.cond cc then transfer (cfg.cycles op true) (stackTop s) (dropTop s)
    else retireWith 1 (cfg.cycles op false) s)

/-- `RETI` (R210). -/
def retFromInterrupt (cfg : Config) (op : Opcode) (s : State) : Result :=
  .next (returnFromInterrupt (cfg.cycles op true) s)

/-! ### The meanings -/

/-- `JR e` (R204). -/
def exec_jr_e (e : Byte) (s : State) : Result := jumpRel config (.base 0x18) e s

/-- `JR NZ,e` (R205). -/
def exec_jr_NZ_e (e : Byte) (s : State) : Result := jumpRelIf config (.base 0x20) .nz e s

/-- `JR Z,e` (R205). -/
def exec_jr_Z_e (e : Byte) (s : State) : Result := jumpRelIf config (.base 0x28) .z e s

/-- `JR NC,e` (R205). -/
def exec_jr_NC_e (e : Byte) (s : State) : Result := jumpRelIf config (.base 0x30) .nc e s

/-- `JR C,e` (R205). -/
def exec_jr_C_e (e : Byte) (s : State) : Result := jumpRelIf config (.base 0x38) .c e s

/-- `RET NZ` (R209). -/
def exec_ret_NZ (s : State) : Result := retIf config (.base 0xC0) .nz s

/-- `JP NZ,nn` (R202). -/
def exec_jp_NZ_nn (nn : Word) (s : State) : Result := jumpIf config (.base 0xC2) .nz nn s

/-- `JP nn` (R201). -/
def exec_jp_nn (nn : Word) (s : State) : Result := jump config (.base 0xC3) nn s

/-- `CALL NZ,nn` (R207). -/
def exec_call_NZ_nn (nn : Word) (s : State) : Result := callIf config (.base 0xC4) .nz nn s

/-- `RST 00H` (R211). -/
def exec_rst_00 (s : State) : Result := restart config (.base 0xC7) .k0 s

/-- `RET Z` (R209). -/
def exec_ret_Z (s : State) : Result := retIf config (.base 0xC8) .z s

/-- `RET` (R208). -/
def exec_ret (s : State) : Result := ret config (.base 0xC9) s

/-- `JP Z,nn` (R202). -/
def exec_jp_Z_nn (nn : Word) (s : State) : Result := jumpIf config (.base 0xCA) .z nn s

/-- `CALL Z,nn` (R207). -/
def exec_call_Z_nn (nn : Word) (s : State) : Result := callIf config (.base 0xCC) .z nn s

/-- `CALL nn` (R206). -/
def exec_call_nn (nn : Word) (s : State) : Result := call config (.base 0xCD) nn s

/-- `RST 08H` (R211). -/
def exec_rst_08 (s : State) : Result := restart config (.base 0xCF) .k1 s

/-- `RET NC` (R209). -/
def exec_ret_NC (s : State) : Result := retIf config (.base 0xD0) .nc s

/-- `JP NC,nn` (R202). -/
def exec_jp_NC_nn (nn : Word) (s : State) : Result := jumpIf config (.base 0xD2) .nc nn s

/-- `CALL NC,nn` (R207). -/
def exec_call_NC_nn (nn : Word) (s : State) : Result := callIf config (.base 0xD4) .nc nn s

/-- `RST 10H` (R211). -/
def exec_rst_10 (s : State) : Result := restart config (.base 0xD7) .k2 s

/-- `RET C` (R209). -/
def exec_ret_C (s : State) : Result := retIf config (.base 0xD8) .c s

/-- `RETI` (R210). -/
def exec_reti (s : State) : Result := retFromInterrupt config (.base 0xD9) s

/-- `JP C,nn` (R202). -/
def exec_jp_C_nn (nn : Word) (s : State) : Result := jumpIf config (.base 0xDA) .c nn s

/-- `CALL C,nn` (R207). -/
def exec_call_C_nn (nn : Word) (s : State) : Result := callIf config (.base 0xDC) .c nn s

/-- `RST 18H` (R211). -/
def exec_rst_18 (s : State) : Result := restart config (.base 0xDF) .k3 s

/-- `RST 20H` (R211). -/
def exec_rst_20 (s : State) : Result := restart config (.base 0xE7) .k4 s

/-- `JP HL` (R203). -/
def exec_jp_HL (s : State) : Result := jump config (.base 0xE9) s.hl s

/-- `RST 28H` (R211). -/
def exec_rst_28 (s : State) : Result := restart config (.base 0xEF) .k5 s

/-- `RST 30H` (R211). -/
def exec_rst_30 (s : State) : Result := restart config (.base 0xF7) .k6 s

/-- `RST 38H` (R211). -/
def exec_rst_38 (s : State) : Result := restart config (.base 0xFF) .k7 s

end Sys2Proof.Machine
end

