-- ==== Sys2Proof/Machine/Load16.lean ====
section
/-! DEFINITION. Stack transfers and 16-bit loads (44_stack_load16.md): the shared operations, then one meaning per instruction. -/
namespace Sys2Proof.Machine

/-- `PUSH rr` (R220). -/
def pushPair (cfg : Config) (op : Opcode) (p : StackPair) (s : State) : Result :=
  .next (retire cfg op 1 (push16 cfg (s.stackPair p) s))

/-- `POP rr` (R221, R222). -/
def popPair (cfg : Config) (op : Opcode) (p : StackPair) (s : State) : Result :=
  .next (retire cfg op 1 ((dropTop s).setStackPair p (stackTop s)))

/-- `LD rr,nn` (R223). -/
def loadPairImm (cfg : Config) (op : Opcode) (p : Pair) (nn : Word) (s : State) : Result :=
  .next (retire cfg op 3 (s.setPair p nn))

/-- `LD (nn),SP` (R224). -/
def storeSp (cfg : Config) (op : Opcode) (nn : Word) (s : State) : Result :=
  .next (retire cfg op 3 (memWrite16 cfg nn s.sp s))

/-- `LD SP,HL` (R225). -/
def loadSpHl (cfg : Config) (op : Opcode) (s : State) : Result := .next (retire cfg op 1 { s with sp := s.hl })

/-- `LD HL,SP+e` (R226): SP is unchanged. -/
def loadHlSpRel (cfg : Config) (op : Opcode) (e : Byte) (s : State) : Result :=
  .next (retire cfg op 2 (State.setPair { s with f := addSpFlags s.sp e } .hl (s.sp + sext16 e)))

/-! ### The meanings -/

/-- `LD BC,nn` (R223). -/
def exec_ld_BC_nn (nn : Word) (s : State) : Result := loadPairImm config (.base 0x01) .bc nn s

/-- `LD (nn),SP` (R224). -/
def exec_ld_atnn_SP (nn : Word) (s : State) : Result := storeSp config (.base 0x08) nn s

/-- `LD DE,nn` (R223). -/
def exec_ld_DE_nn (nn : Word) (s : State) : Result := loadPairImm config (.base 0x11) .de nn s

/-- `LD HL,nn` (R223). -/
def exec_ld_HL_nn (nn : Word) (s : State) : Result := loadPairImm config (.base 0x21) .hl nn s

/-- `LD SP,nn` (R223). -/
def exec_ld_SP_nn (nn : Word) (s : State) : Result := loadPairImm config (.base 0x31) .sp nn s

/-- `POP BC` (R221). -/
def exec_pop_BC (s : State) : Result := popPair config (.base 0xC1) .bc s

/-- `PUSH BC` (R220). -/
def exec_push_BC (s : State) : Result := pushPair config (.base 0xC5) .bc s

/-- `POP DE` (R221). -/
def exec_pop_DE (s : State) : Result := popPair config (.base 0xD1) .de s

/-- `PUSH DE` (R220). -/
def exec_push_DE (s : State) : Result := pushPair config (.base 0xD5) .de s

/-- `POP HL` (R221). -/
def exec_pop_HL (s : State) : Result := popPair config (.base 0xE1) .hl s

/-- `PUSH HL` (R220). -/
def exec_push_HL (s : State) : Result := pushPair config (.base 0xE5) .hl s

/-- `POP AF` (R222). -/
def exec_pop_AF (s : State) : Result := popPair config (.base 0xF1) .af s

/-- `PUSH AF` (R220). -/
def exec_push_AF (s : State) : Result := pushPair config (.base 0xF5) .af s

/-- `LD HL,SP+e` (R226). -/
def exec_ld_HL_SPe (e : Byte) (s : State) : Result := loadHlSpRel config (.base 0xF8) e s

/-- `LD SP,HL` (R225). -/
def exec_ld_SP_HL (s : State) : Result := loadSpHl config (.base 0xF9) s

end Sys2Proof.Machine
end

