-- ==== Sys2Proof/Machine/Load8.lean ====
section
/-! DEFINITION. The 8-bit loads and stores (45_load8.md): the shared operations, then one meaning per instruction. None of them
writes a flag (R249). -/
namespace Sys2Proof.Machine

/-- `LD r,r'` (R230). -/
def loadRegReg (cfg : Config) (op : Opcode) (dst src : Reg8) (s : State) : Result :=
  .next (retire cfg op 1 (s.setReg dst (s.reg src)))

/-- `LD r,n` (R231). -/
def loadRegImm (cfg : Config) (op : Opcode) (dst : Reg8) (n : Byte) (s : State) : Result :=
  .next (retire cfg op 2 (s.setReg dst n))

/-- `LD r,(HL)` (R232): the address is the HL before the write. -/
def loadRegHl (cfg : Config) (op : Opcode) (dst : Reg8) (s : State) : Result :=
  .next (retire cfg op 1 (s.setReg dst (s.rd s.hl)))

/-- `LD (HL),r` (R233). -/
def storeHlReg (cfg : Config) (op : Opcode) (src : Reg8) (s : State) : Result :=
  .next (retire cfg op 1 (memWrite cfg s.hl (s.reg src) s))

/-- `LD (HL),n` (R234). -/
def storeHlImm (cfg : Config) (op : Opcode) (n : Byte) (s : State) : Result :=
  .next (retire cfg op 2 (memWrite cfg s.hl n s))

/-- `LD A,(addr)` of every form that loads A alone (R235, R236, R239, R241, R243), `len` bytes long. -/
def loadA (cfg : Config) (op : Opcode) (len : Nat) (addr : Word) (s : State) : Result :=
  .next (retire cfg op len { s with a := s.rd addr })

/-- `LD (addr),A` of every form that stores A alone (R237, R238, R240, R242, R244), `len` bytes long. -/
def storeA (cfg : Config) (op : Opcode) (len : Nat) (addr : Word) (s : State) : Result :=
  .next (retire cfg op len (memWrite cfg addr s.a s))

/-- `LD A,(HL+)` and `LD A,(HL-)` (R246, R248): the load, then HL moves by `step`. -/
def loadAStep (cfg : Config) (op : Opcode) (step : Word) (s : State) : Result :=
  .next (retire cfg op 1 (State.setPair { s with a := s.rd s.hl } .hl (s.hl + step)))

/-- `LD (HL+),A` and `LD (HL-),A` (R245, R247): the store, then HL moves by `step`. -/
def storeAStep (cfg : Config) (op : Opcode) (step : Word) (s : State) : Result :=
  .next (retire cfg op 1 ((memWrite cfg s.hl s.a s).setPair .hl (s.hl + step)))

/-! ### The meanings -/

/-- `LD (BC),A` (R237). -/
def exec_ld_atBC_A (s : State) : Result := storeA config (.base 0x02) 1 (s.pair .bc) s

/-- `LD B,n` (R231). -/
def exec_ld_B_n (n : Byte) (s : State) : Result := loadRegImm config (.base 0x06) .b n s

/-- `LD A,(BC)` (R235). -/
def exec_ld_A_atBC (s : State) : Result := loadA config (.base 0x0A) 1 (s.pair .bc) s

/-- `LD C,n` (R231). -/
def exec_ld_C_n (n : Byte) (s : State) : Result := loadRegImm config (.base 0x0E) .c n s

/-- `LD (DE),A` (R238). -/
def exec_ld_atDE_A (s : State) : Result := storeA config (.base 0x12) 1 (s.pair .de) s

/-- `LD D,n` (R231). -/
def exec_ld_D_n (n : Byte) (s : State) : Result := loadRegImm config (.base 0x16) .d n s

/-- `LD A,(DE)` (R236). -/
def exec_ld_A_atDE (s : State) : Result := loadA config (.base 0x1A) 1 (s.pair .de) s

/-- `LD E,n` (R231). -/
def exec_ld_E_n (n : Byte) (s : State) : Result := loadRegImm config (.base 0x1E) .e n s

/-- `LD (HL+),A` (R245). -/
def exec_ld_atHLinc_A (s : State) : Result := storeAStep config (.base 0x22) 1 s

/-- `LD H,n` (R231). -/
def exec_ld_H_n (n : Byte) (s : State) : Result := loadRegImm config (.base 0x26) .h n s

/-- `LD A,(HL+)` (R246). -/
def exec_ld_A_atHLinc (s : State) : Result := loadAStep config (.base 0x2A) 1 s

/-- `LD L,n` (R231). -/
def exec_ld_L_n (n : Byte) (s : State) : Result := loadRegImm config (.base 0x2E) .l n s

/-- `LD (HL-),A` (R247). -/
def exec_ld_atHLdec_A (s : State) : Result := storeAStep config (.base 0x32) (-1) s

/-- `LD (HL),n` (R234). -/
def exec_ld_atHL_n (n : Byte) (s : State) : Result := storeHlImm config (.base 0x36) n s

/-- `LD A,(HL-)` (R248). -/
def exec_ld_A_atHLdec (s : State) : Result := loadAStep config (.base 0x3A) (-1) s

/-- `LD A,n` (R231). -/
def exec_ld_A_n (n : Byte) (s : State) : Result := loadRegImm config (.base 0x3E) .a n s

/-- `LD B,B` (R230). -/
def exec_ld_B_B (s : State) : Result := loadRegReg config (.base 0x40) .b .b s

/-- `LD B,C` (R230). -/
def exec_ld_B_C (s : State) : Result := loadRegReg config (.base 0x41) .b .c s

/-- `LD B,D` (R230). -/
def exec_ld_B_D (s : State) : Result := loadRegReg config (.base 0x42) .b .d s

/-- `LD B,E` (R230). -/
def exec_ld_B_E (s : State) : Result := loadRegReg config (.base 0x43) .b .e s

/-- `LD B,H` (R230). -/
def exec_ld_B_H (s : State) : Result := loadRegReg config (.base 0x44) .b .h s

/-- `LD B,L` (R230). -/
def exec_ld_B_L (s : State) : Result := loadRegReg config (.base 0x45) .b .l s

/-- `LD B,(HL)` (R232). -/
def exec_ld_B_atHL (s : State) : Result := loadRegHl config (.base 0x46) .b s

/-- `LD B,A` (R230). -/
def exec_ld_B_A (s : State) : Result := loadRegReg config (.base 0x47) .b .a s

/-- `LD C,B` (R230). -/
def exec_ld_C_B (s : State) : Result := loadRegReg config (.base 0x48) .c .b s

/-- `LD C,C` (R230). -/
def exec_ld_C_C (s : State) : Result := loadRegReg config (.base 0x49) .c .c s

/-- `LD C,D` (R230). -/
def exec_ld_C_D (s : State) : Result := loadRegReg config (.base 0x4A) .c .d s

/-- `LD C,E` (R230). -/
def exec_ld_C_E (s : State) : Result := loadRegReg config (.base 0x4B) .c .e s

/-- `LD C,H` (R230). -/
def exec_ld_C_H (s : State) : Result := loadRegReg config (.base 0x4C) .c .h s

/-- `LD C,L` (R230). -/
def exec_ld_C_L (s : State) : Result := loadRegReg config (.base 0x4D) .c .l s

/-- `LD C,(HL)` (R232). -/
def exec_ld_C_atHL (s : State) : Result := loadRegHl config (.base 0x4E) .c s

/-- `LD C,A` (R230). -/
def exec_ld_C_A (s : State) : Result := loadRegReg config (.base 0x4F) .c .a s

/-- `LD D,B` (R230). -/
def exec_ld_D_B (s : State) : Result := loadRegReg config (.base 0x50) .d .b s

/-- `LD D,C` (R230). -/
def exec_ld_D_C (s : State) : Result := loadRegReg config (.base 0x51) .d .c s

/-- `LD D,D` (R230). -/
def exec_ld_D_D (s : State) : Result := loadRegReg config (.base 0x52) .d .d s

/-- `LD D,E` (R230). -/
def exec_ld_D_E (s : State) : Result := loadRegReg config (.base 0x53) .d .e s

/-- `LD D,H` (R230). -/
def exec_ld_D_H (s : State) : Result := loadRegReg config (.base 0x54) .d .h s

/-- `LD D,L` (R230). -/
def exec_ld_D_L (s : State) : Result := loadRegReg config (.base 0x55) .d .l s

/-- `LD D,(HL)` (R232). -/
def exec_ld_D_atHL (s : State) : Result := loadRegHl config (.base 0x56) .d s

/-- `LD D,A` (R230). -/
def exec_ld_D_A (s : State) : Result := loadRegReg config (.base 0x57) .d .a s

/-- `LD E,B` (R230). -/
def exec_ld_E_B (s : State) : Result := loadRegReg config (.base 0x58) .e .b s

/-- `LD E,C` (R230). -/
def exec_ld_E_C (s : State) : Result := loadRegReg config (.base 0x59) .e .c s

/-- `LD E,D` (R230). -/
def exec_ld_E_D (s : State) : Result := loadRegReg config (.base 0x5A) .e .d s

/-- `LD E,E` (R230). -/
def exec_ld_E_E (s : State) : Result := loadRegReg config (.base 0x5B) .e .e s

/-- `LD E,H` (R230). -/
def exec_ld_E_H (s : State) : Result := loadRegReg config (.base 0x5C) .e .h s

/-- `LD E,L` (R230). -/
def exec_ld_E_L (s : State) : Result := loadRegReg config (.base 0x5D) .e .l s

/-- `LD E,(HL)` (R232). -/
def exec_ld_E_atHL (s : State) : Result := loadRegHl config (.base 0x5E) .e s

/-- `LD E,A` (R230). -/
def exec_ld_E_A (s : State) : Result := loadRegReg config (.base 0x5F) .e .a s

/-- `LD H,B` (R230). -/
def exec_ld_H_B (s : State) : Result := loadRegReg config (.base 0x60) .h .b s

/-- `LD H,C` (R230). -/
def exec_ld_H_C (s : State) : Result := loadRegReg config (.base 0x61) .h .c s

/-- `LD H,D` (R230). -/
def exec_ld_H_D (s : State) : Result := loadRegReg config (.base 0x62) .h .d s

/-- `LD H,E` (R230). -/
def exec_ld_H_E (s : State) : Result := loadRegReg config (.base 0x63) .h .e s

/-- `LD H,H` (R230). -/
def exec_ld_H_H (s : State) : Result := loadRegReg config (.base 0x64) .h .h s

/-- `LD H,L` (R230). -/
def exec_ld_H_L (s : State) : Result := loadRegReg config (.base 0x65) .h .l s

/-- `LD H,(HL)` (R232). -/
def exec_ld_H_atHL (s : State) : Result := loadRegHl config (.base 0x66) .h s

/-- `LD H,A` (R230). -/
def exec_ld_H_A (s : State) : Result := loadRegReg config (.base 0x67) .h .a s

/-- `LD L,B` (R230). -/
def exec_ld_L_B (s : State) : Result := loadRegReg config (.base 0x68) .l .b s

/-- `LD L,C` (R230). -/
def exec_ld_L_C (s : State) : Result := loadRegReg config (.base 0x69) .l .c s

/-- `LD L,D` (R230). -/
def exec_ld_L_D (s : State) : Result := loadRegReg config (.base 0x6A) .l .d s

/-- `LD L,E` (R230). -/
def exec_ld_L_E (s : State) : Result := loadRegReg config (.base 0x6B) .l .e s

/-- `LD L,H` (R230). -/
def exec_ld_L_H (s : State) : Result := loadRegReg config (.base 0x6C) .l .h s

/-- `LD L,L` (R230). -/
def exec_ld_L_L (s : State) : Result := loadRegReg config (.base 0x6D) .l .l s

/-- `LD L,(HL)` (R232). -/
def exec_ld_L_atHL (s : State) : Result := loadRegHl config (.base 0x6E) .l s

/-- `LD L,A` (R230). -/
def exec_ld_L_A (s : State) : Result := loadRegReg config (.base 0x6F) .l .a s

/-- `LD (HL),B` (R233). -/
def exec_ld_atHL_B (s : State) : Result := storeHlReg config (.base 0x70) .b s

/-- `LD (HL),C` (R233). -/
def exec_ld_atHL_C (s : State) : Result := storeHlReg config (.base 0x71) .c s

/-- `LD (HL),D` (R233). -/
def exec_ld_atHL_D (s : State) : Result := storeHlReg config (.base 0x72) .d s

/-- `LD (HL),E` (R233). -/
def exec_ld_atHL_E (s : State) : Result := storeHlReg config (.base 0x73) .e s

/-- `LD (HL),H` (R233). -/
def exec_ld_atHL_H (s : State) : Result := storeHlReg config (.base 0x74) .h s

/-- `LD (HL),L` (R233). -/
def exec_ld_atHL_L (s : State) : Result := storeHlReg config (.base 0x75) .l s

/-- `LD (HL),A` (R233). -/
def exec_ld_atHL_A (s : State) : Result := storeHlReg config (.base 0x77) .a s

/-- `LD A,B` (R230). -/
def exec_ld_A_B (s : State) : Result := loadRegReg config (.base 0x78) .a .b s

/-- `LD A,C` (R230). -/
def exec_ld_A_C (s : State) : Result := loadRegReg config (.base 0x79) .a .c s

/-- `LD A,D` (R230). -/
def exec_ld_A_D (s : State) : Result := loadRegReg config (.base 0x7A) .a .d s

/-- `LD A,E` (R230). -/
def exec_ld_A_E (s : State) : Result := loadRegReg config (.base 0x7B) .a .e s

/-- `LD A,H` (R230). -/
def exec_ld_A_H (s : State) : Result := loadRegReg config (.base 0x7C) .a .h s

/-- `LD A,L` (R230). -/
def exec_ld_A_L (s : State) : Result := loadRegReg config (.base 0x7D) .a .l s

/-- `LD A,(HL)` (R232). -/
def exec_ld_A_atHL (s : State) : Result := loadRegHl config (.base 0x7E) .a s

/-- `LD A,A` (R230). -/
def exec_ld_A_A (s : State) : Result := loadRegReg config (.base 0x7F) .a .a s

/-- `LDH (n),A` (R242). -/
def exec_ldh_atn_A (n : Byte) (s : State) : Result := storeA config (.base 0xE0) 2 (highPageAddr config n) s

/-- `LD (C),A` (R244). -/
def exec_ld_atC_A (s : State) : Result := storeA config (.base 0xE2) 1 (highPageAddr config s.c) s

/-- `LD (nn),A` (R240). -/
def exec_ld_atnn_A (nn : Word) (s : State) : Result := storeA config (.base 0xEA) 3 nn s

/-- `LDH A,(n)` (R241). -/
def exec_ldh_A_atn (n : Byte) (s : State) : Result := loadA config (.base 0xF0) 2 (highPageAddr config n) s

/-- `LD A,(C)` (R243). -/
def exec_ld_A_atC (s : State) : Result := loadA config (.base 0xF2) 1 (highPageAddr config s.c) s

/-- `LD A,(nn)` (R239). -/
def exec_ld_A_atnn (nn : Word) (s : State) : Result := loadA config (.base 0xFA) 3 nn s

end Sys2Proof.Machine
end

