-- ==== Sys2Proof/Machine/Rotate.lean ====
section
/-! DEFINITION. Rotates, shifts and SWAP (42_rotate_shift_bit.md, sections 2 and 3): the shared operations, then one meaning per
instruction. -/
namespace Sys2Proof.Machine

/-- An accumulator rotate of the base page (R171 to R174, R198). -/
def rotateA (cfg : Config) (op : Opcode) (o : RotOp) (s : State) : Result :=
  .next (retire cfg op 1 { s with a := (rotA8 o s.a s.flagC).value, f := (rotA8 o s.a s.flagC).flags })

/-- An extended-page rotate, shift or SWAP of a register (R170, R175 to R190). -/
def rotateReg (cfg : Config) (op : Opcode) (o : RotOp) (r : Reg8) (s : State) : Result :=
  .next (retire cfg op 2
    (State.setReg { s with f := (rot8 o (s.reg r) s.flagC).flags } r (rot8 o (s.reg r) s.flagC).value))

/-- An extended-page rotate, shift or SWAP of the byte at HL (R170): the flags are those of the value computed, also where the
store is to DIV. -/
def rotateHl (cfg : Config) (op : Opcode) (o : RotOp) (s : State) : Result :=
  .next (retire cfg op 2
    (memWrite cfg s.hl (rot8 o (s.rd s.hl) s.flagC).value { s with f := (rot8 o (s.rd s.hl) s.flagC).flags }))

/-! ### The meanings -/

/-- `RLCA` (R171). -/
def exec_rlca (s : State) : Result := rotateA config (.base 0x07) .rlc s

/-- `RRCA` (R172). -/
def exec_rrca (s : State) : Result := rotateA config (.base 0x0F) .rrc s

/-- `RLA` (R173). -/
def exec_rla (s : State) : Result := rotateA config (.base 0x17) .rl s

/-- `RRA` (R174). -/
def exec_rra (s : State) : Result := rotateA config (.base 0x1F) .rr s

/-- `RLC B` (R175). -/
def exec_rlc_B (s : State) : Result := rotateReg config (.ext 0x00) .rlc .b s

/-- `RLC C` (R175). -/
def exec_rlc_C (s : State) : Result := rotateReg config (.ext 0x01) .rlc .c s

/-- `RLC D` (R175). -/
def exec_rlc_D (s : State) : Result := rotateReg config (.ext 0x02) .rlc .d s

/-- `RLC E` (R175). -/
def exec_rlc_E (s : State) : Result := rotateReg config (.ext 0x03) .rlc .e s

/-- `RLC H` (R175). -/
def exec_rlc_H (s : State) : Result := rotateReg config (.ext 0x04) .rlc .h s

/-- `RLC L` (R175). -/
def exec_rlc_L (s : State) : Result := rotateReg config (.ext 0x05) .rlc .l s

/-- `RLC (HL)` (R176). -/
def exec_rlc_atHL (s : State) : Result := rotateHl config (.ext 0x06) .rlc s

/-- `RLC A` (R175). -/
def exec_rlc_A (s : State) : Result := rotateReg config (.ext 0x07) .rlc .a s

/-- `RRC B` (R177). -/
def exec_rrc_B (s : State) : Result := rotateReg config (.ext 0x08) .rrc .b s

/-- `RRC C` (R177). -/
def exec_rrc_C (s : State) : Result := rotateReg config (.ext 0x09) .rrc .c s

/-- `RRC D` (R177). -/
def exec_rrc_D (s : State) : Result := rotateReg config (.ext 0x0A) .rrc .d s

/-- `RRC E` (R177). -/
def exec_rrc_E (s : State) : Result := rotateReg config (.ext 0x0B) .rrc .e s

/-- `RRC H` (R177). -/
def exec_rrc_H (s : State) : Result := rotateReg config (.ext 0x0C) .rrc .h s

/-- `RRC L` (R177). -/
def exec_rrc_L (s : State) : Result := rotateReg config (.ext 0x0D) .rrc .l s

/-- `RRC (HL)` (R178). -/
def exec_rrc_atHL (s : State) : Result := rotateHl config (.ext 0x0E) .rrc s

/-- `RRC A` (R177). -/
def exec_rrc_A (s : State) : Result := rotateReg config (.ext 0x0F) .rrc .a s

/-- `RL B` (R179). -/
def exec_rl_B (s : State) : Result := rotateReg config (.ext 0x10) .rl .b s

/-- `RL C` (R179). -/
def exec_rl_C (s : State) : Result := rotateReg config (.ext 0x11) .rl .c s

/-- `RL D` (R179). -/
def exec_rl_D (s : State) : Result := rotateReg config (.ext 0x12) .rl .d s

/-- `RL E` (R179). -/
def exec_rl_E (s : State) : Result := rotateReg config (.ext 0x13) .rl .e s

/-- `RL H` (R179). -/
def exec_rl_H (s : State) : Result := rotateReg config (.ext 0x14) .rl .h s

/-- `RL L` (R179). -/
def exec_rl_L (s : State) : Result := rotateReg config (.ext 0x15) .rl .l s

/-- `RL (HL)` (R180). -/
def exec_rl_atHL (s : State) : Result := rotateHl config (.ext 0x16) .rl s

/-- `RL A` (R179). -/
def exec_rl_A (s : State) : Result := rotateReg config (.ext 0x17) .rl .a s

/-- `RR B` (R181). -/
def exec_rr_B (s : State) : Result := rotateReg config (.ext 0x18) .rr .b s

/-- `RR C` (R181). -/
def exec_rr_C (s : State) : Result := rotateReg config (.ext 0x19) .rr .c s

/-- `RR D` (R181). -/
def exec_rr_D (s : State) : Result := rotateReg config (.ext 0x1A) .rr .d s

/-- `RR E` (R181). -/
def exec_rr_E (s : State) : Result := rotateReg config (.ext 0x1B) .rr .e s

/-- `RR H` (R181). -/
def exec_rr_H (s : State) : Result := rotateReg config (.ext 0x1C) .rr .h s

/-- `RR L` (R181). -/
def exec_rr_L (s : State) : Result := rotateReg config (.ext 0x1D) .rr .l s

/-- `RR (HL)` (R182). -/
def exec_rr_atHL (s : State) : Result := rotateHl config (.ext 0x1E) .rr s

/-- `RR A` (R181). -/
def exec_rr_A (s : State) : Result := rotateReg config (.ext 0x1F) .rr .a s

/-- `SLA B` (R183). -/
def exec_sla_B (s : State) : Result := rotateReg config (.ext 0x20) .sla .b s

/-- `SLA C` (R183). -/
def exec_sla_C (s : State) : Result := rotateReg config (.ext 0x21) .sla .c s

/-- `SLA D` (R183). -/
def exec_sla_D (s : State) : Result := rotateReg config (.ext 0x22) .sla .d s

/-- `SLA E` (R183). -/
def exec_sla_E (s : State) : Result := rotateReg config (.ext 0x23) .sla .e s

/-- `SLA H` (R183). -/
def exec_sla_H (s : State) : Result := rotateReg config (.ext 0x24) .sla .h s

/-- `SLA L` (R183). -/
def exec_sla_L (s : State) : Result := rotateReg config (.ext 0x25) .sla .l s

/-- `SLA (HL)` (R184). -/
def exec_sla_atHL (s : State) : Result := rotateHl config (.ext 0x26) .sla s

/-- `SLA A` (R183). -/
def exec_sla_A (s : State) : Result := rotateReg config (.ext 0x27) .sla .a s

/-- `SRA B` (R185). -/
def exec_sra_B (s : State) : Result := rotateReg config (.ext 0x28) .sra .b s

/-- `SRA C` (R185). -/
def exec_sra_C (s : State) : Result := rotateReg config (.ext 0x29) .sra .c s

/-- `SRA D` (R185). -/
def exec_sra_D (s : State) : Result := rotateReg config (.ext 0x2A) .sra .d s

/-- `SRA E` (R185). -/
def exec_sra_E (s : State) : Result := rotateReg config (.ext 0x2B) .sra .e s

/-- `SRA H` (R185). -/
def exec_sra_H (s : State) : Result := rotateReg config (.ext 0x2C) .sra .h s

/-- `SRA L` (R185). -/
def exec_sra_L (s : State) : Result := rotateReg config (.ext 0x2D) .sra .l s

/-- `SRA (HL)` (R186). -/
def exec_sra_atHL (s : State) : Result := rotateHl config (.ext 0x2E) .sra s

/-- `SRA A` (R185). -/
def exec_sra_A (s : State) : Result := rotateReg config (.ext 0x2F) .sra .a s

/-- `SWAP B` (R187). -/
def exec_swap_B (s : State) : Result := rotateReg config (.ext 0x30) .swap .b s

/-- `SWAP C` (R187). -/
def exec_swap_C (s : State) : Result := rotateReg config (.ext 0x31) .swap .c s

/-- `SWAP D` (R187). -/
def exec_swap_D (s : State) : Result := rotateReg config (.ext 0x32) .swap .d s

/-- `SWAP E` (R187). -/
def exec_swap_E (s : State) : Result := rotateReg config (.ext 0x33) .swap .e s

/-- `SWAP H` (R187). -/
def exec_swap_H (s : State) : Result := rotateReg config (.ext 0x34) .swap .h s

/-- `SWAP L` (R187). -/
def exec_swap_L (s : State) : Result := rotateReg config (.ext 0x35) .swap .l s

/-- `SWAP (HL)` (R188). -/
def exec_swap_atHL (s : State) : Result := rotateHl config (.ext 0x36) .swap s

/-- `SWAP A` (R187). -/
def exec_swap_A (s : State) : Result := rotateReg config (.ext 0x37) .swap .a s

/-- `SRL B` (R189). -/
def exec_srl_B (s : State) : Result := rotateReg config (.ext 0x38) .srl .b s

/-- `SRL C` (R189). -/
def exec_srl_C (s : State) : Result := rotateReg config (.ext 0x39) .srl .c s

/-- `SRL D` (R189). -/
def exec_srl_D (s : State) : Result := rotateReg config (.ext 0x3A) .srl .d s

/-- `SRL E` (R189). -/
def exec_srl_E (s : State) : Result := rotateReg config (.ext 0x3B) .srl .e s

/-- `SRL H` (R189). -/
def exec_srl_H (s : State) : Result := rotateReg config (.ext 0x3C) .srl .h s

/-- `SRL L` (R189). -/
def exec_srl_L (s : State) : Result := rotateReg config (.ext 0x3D) .srl .l s

/-- `SRL (HL)` (R190). -/
def exec_srl_atHL (s : State) : Result := rotateHl config (.ext 0x3E) .srl s

/-- `SRL A` (R189). -/
def exec_srl_A (s : State) : Result := rotateReg config (.ext 0x3F) .srl .a s

end Sys2Proof.Machine
end

