-- ==== Sys2Proof/Machine/Prefix.lean ====
section
/-! DEFINITION. The base-page entry 0xCB (46_system.md rule R261): the instruction is the extended one that the second byte
selects. -/
namespace Sys2Proof.Machine

/-- The extended instruction that `op2 = (x, y, z)` selects (30_encoding.md rule R104). -/
def extendedOp (cfg : Config) (op2 : Byte) (s : State) : Result :=
  match fieldX op2, operand8Of (fieldZ op2) with
  | .k0, .reg r => rotateReg cfg (.ext op2) (rotOpOf (fieldY op2)) r s
  | .k0, .atHL => rotateHl cfg (.ext op2) (rotOpOf (fieldY op2)) s
  | .k1, .reg r => bitReg cfg (.ext op2) (fieldY op2).index r s
  | .k1, .atHL => bitHl cfg (.ext op2) (fieldY op2).index s
  | .k2, .reg r => resReg cfg (.ext op2) (fieldY op2).index r s
  | .k2, .atHL => resHl cfg (.ext op2) (fieldY op2).index s
  | .k3, .reg r => setBitReg cfg (.ext op2) (fieldY op2).index r s
  | .k3, .atHL => setBitHl cfg (.ext op2) (fieldY op2).index s

/-- `PREFIX CB` (R261): no meaning of its own; it is the extended instruction selected by the byte after it, whose length and
cost it has. The decoder never yields this entry (R105);
that `exec` answers so on the ill-formed term is the model's choice (log 16). -/
def exec_prefix_CB (op2 : Byte) (s : State) : Result := extendedOp config op2 s

end Sys2Proof.Machine
end

