-- ==== Sys2Proof/Machine/System.lean ====
section
/-! DEFINITION. System instructions (46_system.md): the shared operations, then one meaning per instruction. -/
namespace Sys2Proof.Machine

/-- `NOP` (R255): only the bookkeeping of the step. -/
def noOperation (cfg : Config) (op : Opcode) (s : State) : Result := .next (retire cfg op 1 s)

/-- `HALT` (R256): the rest of its own step is carried out as for any instruction. -/
def haltCore (cfg : Config) (op : Opcode) (s : State) : Result := .next (retire cfg op 1 { s with run := .halted })

/-- `STOP` (R257): as HALT, with the run state Stopped and the length `STOP_LEN` (D17). -/
def stopCore (cfg : Config) (op : Opcode) (s : State) : Result :=
  .next (retire cfg op cfg.stopLen { s with run := .stopped })

/-- `DI` and `EI` (R258, R259): the gate is set to a fixed value, with no delay (D9). -/
def setGate (cfg : Config) (op : Opcode) (on : Bool) (s : State) : Result :=
  .next (retire cfg op 1 { s with ime := on })

/-- `INVALID` (R260): a no-op of length `INVALID_LEN` and cost `INVALID_CYCLES` (D7). -/
def invalidOpcode (cfg : Config) (s : State) : Result := .next (retireWith cfg.invalidLen cfg.invalidCycles s)

/-! ### The meanings -/

/-- `NOP` (R255). -/
def exec_nop (s : State) : Result := noOperation config (.base 0x00) s

/-- `STOP` (R257). -/
def exec_stop (_pad : Byte) (s : State) : Result := stopCore config (.base 0x10) s

/-- `HALT` (R256). -/
def exec_halt (s : State) : Result := haltCore config (.base 0x76) s

/-- `INVALID 0xD3` (R260). -/
def exec_invalid_D3 (s : State) : Result := invalidOpcode config s

/-- `INVALID 0xDB` (R260). -/
def exec_invalid_DB (s : State) : Result := invalidOpcode config s

/-- `INVALID 0xDD` (R260). -/
def exec_invalid_DD (s : State) : Result := invalidOpcode config s

/-- `INVALID 0xE3` (R260). -/
def exec_invalid_E3 (s : State) : Result := invalidOpcode config s

/-- `INVALID 0xE4` (R260). -/
def exec_invalid_E4 (s : State) : Result := invalidOpcode config s

/-- `INVALID 0xEB` (R260). -/
def exec_invalid_EB (s : State) : Result := invalidOpcode config s

/-- `INVALID 0xEC` (R260). -/
def exec_invalid_EC (s : State) : Result := invalidOpcode config s

/-- `INVALID 0xED` (R260). -/
def exec_invalid_ED (s : State) : Result := invalidOpcode config s

/-- `DI` (R258). -/
def exec_di (s : State) : Result := setGate config (.base 0xF3) false s

/-- `INVALID 0xF4` (R260). -/
def exec_invalid_F4 (s : State) : Result := invalidOpcode config s

/-- `EI` (R259). -/
def exec_ei (s : State) : Result := setGate config (.base 0xFB) true s

/-- `INVALID 0xFC` (R260). -/
def exec_invalid_FC (s : State) : Result := invalidOpcode config s

/-- `INVALID 0xFD` (R260). -/
def exec_invalid_FD (s : State) : Result := invalidOpcode config s

end Sys2Proof.Machine
end

