-- ==== Sys2Proof/Syntax.lean ====
section
/-! DEFINITION. The instructions: one constructor for each of the 512 rows of spec/opcode_table.json, named after the row's operands
(`at` marks an operand in memory: `ld_atHL_B` is `LD (HL),B`). Operands that stand in the instruction stream are the fields:
`n` an unsigned byte, `e` a displacement byte read as signed by the meaning, `nn` a 16-bit immediate, `pad` the byte STOP skips,
`op2` the byte after the 0xCB marker. The constructors with fields come first (the runtime numbers only 244 of those), each
group in the table's order. -/
namespace Sys2Proof

/-- The instruction set (30_encoding.md rules R99 to R105). -/
inductive Instr where
  /-- `LD BC,nn` (R223) -/
  | ld_BC_nn (nn : Word)
  /-- `LD B,n` (R231) -/
  | ld_B_n (n : Byte)
  /-- `LD (nn),SP` (R224) -/
  | ld_atnn_SP (nn : Word)
  /-- `LD C,n` (R231) -/
  | ld_C_n (n : Byte)
  /-- `STOP` (R257) -/
  | stop (pad : Byte)
  /-- `LD DE,nn` (R223) -/
  | ld_DE_nn (nn : Word)
  /-- `LD D,n` (R231) -/
  | ld_D_n (n : Byte)
  /-- `JR e` (R204) -/
  | jr_e (e : Byte)
  /-- `LD E,n` (R231) -/
  | ld_E_n (n : Byte)
  /-- `JR NZ,e` (R205) -/
  | jr_NZ_e (e : Byte)
  /-- `LD HL,nn` (R223) -/
  | ld_HL_nn (nn : Word)
  /-- `LD H,n` (R231) -/
  | ld_H_n (n : Byte)
  /-- `JR Z,e` (R205) -/
  | jr_Z_e (e : Byte)
  /-- `LD L,n` (R231) -/
  | ld_L_n (n : Byte)
  /-- `JR NC,e` (R205) -/
  | jr_NC_e (e : Byte)
  /-- `LD SP,nn` (R223) -/
  | ld_SP_nn (nn : Word)
  /-- `LD (HL),n` (R234) -/
  | ld_atHL_n (n : Byte)
  /-- `JR C,e` (R205) -/
  | jr_C_e (e : Byte)
  /-- `LD A,n` (R231) -/
  | ld_A_n (n : Byte)
  /-- `JP NZ,nn` (R202) -/
  | jp_NZ_nn (nn : Word)
  /-- `JP nn` (R201) -/
  | jp_nn (nn : Word)
  /-- `CALL NZ,nn` (R207) -/
  | call_NZ_nn (nn : Word)
  /-- `ADD A,n` (R123) -/
  | add_A_n (n : Byte)
  /-- `JP Z,nn` (R202) -/
  | jp_Z_nn (nn : Word)
  /-- `PREFIX CB` (R261) -/
  | prefix_CB (op2 : Byte)
  /-- `CALL Z,nn` (R207) -/
  | call_Z_nn (nn : Word)
  /-- `CALL nn` (R206) -/
  | call_nn (nn : Word)
  /-- `ADC A,n` (R126) -/
  | adc_A_n (n : Byte)
  /-- `JP NC,nn` (R202) -/
  | jp_NC_nn (nn : Word)
  /-- `CALL NC,nn` (R207) -/
  | call_NC_nn (nn : Word)
  /-- `SUB n` (R129) -/
  | sub_n (n : Byte)
  /-- `JP C,nn` (R202) -/
  | jp_C_nn (nn : Word)
  /-- `CALL C,nn` (R207) -/
  | call_C_nn (nn : Word)
  /-- `SBC A,n` (R132) -/
  | sbc_A_n (n : Byte)
  /-- `LDH (n),A` (R242) -/
  | ldh_atn_A (n : Byte)
  /-- `AND n` (R135) -/
  | and_n (n : Byte)
  /-- `ADD SP,e` (R161) -/
  | add_SP_e (e : Byte)
  /-- `LD (nn),A` (R240) -/
  | ld_atnn_A (nn : Word)
  /-- `XOR n` (R138) -/
  | xor_n (n : Byte)
  /-- `LDH A,(n)` (R241) -/
  | ldh_A_atn (n : Byte)
  /-- `OR n` (R141) -/
  | or_n (n : Byte)
  /-- `LD HL,SP+e` (R226) -/
  | ld_HL_SPe (e : Byte)
  /-- `LD A,(nn)` (R239) -/
  | ld_A_atnn (nn : Word)
  /-- `CP n` (R144) -/
  | cp_n (n : Byte)
  /-- `NOP` (R255) -/
  | nop
  /-- `LD (BC),A` (R237) -/
  | ld_atBC_A
  /-- `INC BC` (R162) -/
  | inc_BC
  /-- `INC B` (R145) -/
  | inc_B
  /-- `DEC B` (R147) -/
  | dec_B
  /-- `RLCA` (R171) -/
  | rlca
  /-- `ADD HL,BC` (R160) -/
  | add_HL_BC
  /-- `LD A,(BC)` (R235) -/
  | ld_A_atBC
  /-- `DEC BC` (R163) -/
  | dec_BC
  /-- `INC C` (R145) -/
  | inc_C
  /-- `DEC C` (R147) -/
  | dec_C
  /-- `RRCA` (R172) -/
  | rrca
  /-- `LD (DE),A` (R238) -/
  | ld_atDE_A
  /-- `INC DE` (R162) -/
  | inc_DE
  /-- `INC D` (R145) -/
  | inc_D
  /-- `DEC D` (R147) -/
  | dec_D
  /-- `RLA` (R173) -/
  | rla
  /-- `ADD HL,DE` (R160) -/
  | add_HL_DE
  /-- `LD A,(DE)` (R236) -/
  | ld_A_atDE
  /-- `DEC DE` (R163) -/
  | dec_DE
  /-- `INC E` (R145) -/
  | inc_E
  /-- `DEC E` (R147) -/
  | dec_E
  /-- `RRA` (R174) -/
  | rra
  /-- `LD (HL+),A` (R245) -/
  | ld_atHLinc_A
  /-- `INC HL` (R162) -/
  | inc_HL
  /-- `INC H` (R145) -/
  | inc_H
  /-- `DEC H` (R147) -/
  | dec_H
  /-- `DAA` (R149) -/
  | daa
  /-- `ADD HL,HL` (R160) -/
  | add_HL_HL
  /-- `LD A,(HL+)` (R246) -/
  | ld_A_atHLinc
  /-- `DEC HL` (R163) -/
  | dec_HL
  /-- `INC L` (R145) -/
  | inc_L
  /-- `DEC L` (R147) -/
  | dec_L
  /-- `CPL` (R150) -/
  | cpl
  /-- `LD (HL-),A` (R247) -/
  | ld_atHLdec_A
  /-- `INC SP` (R162) -/
  | inc_SP
  /-- `INC (HL)` (R146) -/
  | inc_atHL
  /-- `DEC (HL)` (R148) -/
  | dec_atHL
  /-- `SCF` (R151) -/
  | scf
  /-- `ADD HL,SP` (R160) -/
  | add_HL_SP
  /-- `LD A,(HL-)` (R248) -/
  | ld_A_atHLdec
  /-- `DEC SP` (R163) -/
  | dec_SP
  /-- `INC A` (R145) -/
  | inc_A
  /-- `DEC A` (R147) -/
  | dec_A
  /-- `CCF` (R152) -/
  | ccf
  /-- `LD B,B` (R230) -/
  | ld_B_B
  /-- `LD B,C` (R230) -/
  | ld_B_C
  /-- `LD B,D` (R230) -/
  | ld_B_D
  /-- `LD B,E` (R230) -/
  | ld_B_E
  /-- `LD B,H` (R230) -/
  | ld_B_H
  /-- `LD B,L` (R230) -/
  | ld_B_L
  /-- `LD B,(HL)` (R232) -/
  | ld_B_atHL
  /-- `LD B,A` (R230) -/
  | ld_B_A
  /-- `LD C,B` (R230) -/
  | ld_C_B
  /-- `LD C,C` (R230) -/
  | ld_C_C
  /-- `LD C,D` (R230) -/
  | ld_C_D
  /-- `LD C,E` (R230) -/
  | ld_C_E
  /-- `LD C,H` (R230) -/
  | ld_C_H
  /-- `LD C,L` (R230) -/
  | ld_C_L
  /-- `LD C,(HL)` (R232) -/
  | ld_C_atHL
  /-- `LD C,A` (R230) -/
  | ld_C_A
  /-- `LD D,B` (R230) -/
  | ld_D_B
  /-- `LD D,C` (R230) -/
  | ld_D_C
  /-- `LD D,D` (R230) -/
  | ld_D_D
  /-- `LD D,E` (R230) -/
  | ld_D_E
  /-- `LD D,H` (R230) -/
  | ld_D_H
  /-- `LD D,L` (R230) -/
  | ld_D_L
  /-- `LD D,(HL)` (R232) -/
  | ld_D_atHL
  /-- `LD D,A` (R230) -/
  | ld_D_A
  /-- `LD E,B` (R230) -/
  | ld_E_B
  /-- `LD E,C` (R230) -/
  | ld_E_C
  /-- `LD E,D` (R230) -/
  | ld_E_D
  /-- `LD E,E` (R230) -/
  | ld_E_E
  /-- `LD E,H` (R230) -/
  | ld_E_H
  /-- `LD E,L` (R230) -/
  | ld_E_L
  /-- `LD E,(HL)` (R232) -/
  | ld_E_atHL
  /-- `LD E,A` (R230) -/
  | ld_E_A
  /-- `LD H,B` (R230) -/
  | ld_H_B
  /-- `LD H,C` (R230) -/
  | ld_H_C
  /-- `LD H,D` (R230) -/
  | ld_H_D
  /-- `LD H,E` (R230) -/
  | ld_H_E
  /-- `LD H,H` (R230) -/
  | ld_H_H
  /-- `LD H,L` (R230) -/
  | ld_H_L
  /-- `LD H,(HL)` (R232) -/
  | ld_H_atHL
  /-- `LD H,A` (R230) -/
  | ld_H_A
  /-- `LD L,B` (R230) -/
  | ld_L_B
  /-- `LD L,C` (R230) -/
  | ld_L_C
  /-- `LD L,D` (R230) -/
  | ld_L_D
  /-- `LD L,E` (R230) -/
  | ld_L_E
  /-- `LD L,H` (R230) -/
  | ld_L_H
  /-- `LD L,L` (R230) -/
  | ld_L_L
  /-- `LD L,(HL)` (R232) -/
  | ld_L_atHL
  /-- `LD L,A` (R230) -/
  | ld_L_A
  /-- `LD (HL),B` (R233) -/
  | ld_atHL_B
  /-- `LD (HL),C` (R233) -/
  | ld_atHL_C
  /-- `LD (HL),D` (R233) -/
  | ld_atHL_D
  /-- `LD (HL),E` (R233) -/
  | ld_atHL_E
  /-- `LD (HL),H` (R233) -/
  | ld_atHL_H
  /-- `LD (HL),L` (R233) -/
  | ld_atHL_L
  /-- `HALT` (R256) -/
  | halt
  /-- `LD (HL),A` (R233) -/
  | ld_atHL_A
  /-- `LD A,B` (R230) -/
  | ld_A_B
  /-- `LD A,C` (R230) -/
  | ld_A_C
  /-- `LD A,D` (R230) -/
  | ld_A_D
  /-- `LD A,E` (R230) -/
  | ld_A_E
  /-- `LD A,H` (R230) -/
  | ld_A_H
  /-- `LD A,L` (R230) -/
  | ld_A_L
  /-- `LD A,(HL)` (R232) -/
  | ld_A_atHL
  /-- `LD A,A` (R230) -/
  | ld_A_A
  /-- `ADD A,B` (R121) -/
  | add_A_B
  /-- `ADD A,C` (R121) -/
  | add_A_C
  /-- `ADD A,D` (R121) -/
  | add_A_D
  /-- `ADD A,E` (R121) -/
  | add_A_E
  /-- `ADD A,H` (R121) -/
  | add_A_H
  /-- `ADD A,L` (R121) -/
  | add_A_L
  /-- `ADD A,(HL)` (R122) -/
  | add_A_atHL
  /-- `ADD A,A` (R121) -/
  | add_A_A
  /-- `ADC A,B` (R124) -/
  | adc_A_B
  /-- `ADC A,C` (R124) -/
  | adc_A_C
  /-- `ADC A,D` (R124) -/
  | adc_A_D
  /-- `ADC A,E` (R124) -/
  | adc_A_E
  /-- `ADC A,H` (R124) -/
  | adc_A_H
  /-- `ADC A,L` (R124) -/
  | adc_A_L
  /-- `ADC A,(HL)` (R125) -/
  | adc_A_atHL
  /-- `ADC A,A` (R124) -/
  | adc_A_A
  /-- `SUB B` (R127) -/
  | sub_B
  /-- `SUB C` (R127) -/
  | sub_C
  /-- `SUB D` (R127) -/
  | sub_D
  /-- `SUB E` (R127) -/
  | sub_E
  /-- `SUB H` (R127) -/
  | sub_H
  /-- `SUB L` (R127) -/
  | sub_L
  /-- `SUB (HL)` (R128) -/
  | sub_atHL
  /-- `SUB A` (R127) -/
  | sub_A
  /-- `SBC A,B` (R130) -/
  | sbc_A_B
  /-- `SBC A,C` (R130) -/
  | sbc_A_C
  /-- `SBC A,D` (R130) -/
  | sbc_A_D
  /-- `SBC A,E` (R130) -/
  | sbc_A_E
  /-- `SBC A,H` (R130) -/
  | sbc_A_H
  /-- `SBC A,L` (R130) -/
  | sbc_A_L
  /-- `SBC A,(HL)` (R131) -/
  | sbc_A_atHL
  /-- `SBC A,A` (R130) -/
  | sbc_A_A
  /-- `AND B` (R133) -/
  | and_B
  /-- `AND C` (R133) -/
  | and_C
  /-- `AND D` (R133) -/
  | and_D
  /-- `AND E` (R133) -/
  | and_E
  /-- `AND H` (R133) -/
  | and_H
  /-- `AND L` (R133) -/
  | and_L
  /-- `AND (HL)` (R134) -/
  | and_atHL
  /-- `AND A` (R133) -/
  | and_A
  /-- `XOR B` (R136) -/
  | xor_B
  /-- `XOR C` (R136) -/
  | xor_C
  /-- `XOR D` (R136) -/
  | xor_D
  /-- `XOR E` (R136) -/
  | xor_E
  /-- `XOR H` (R136) -/
  | xor_H
  /-- `XOR L` (R136) -/
  | xor_L
  /-- `XOR (HL)` (R137) -/
  | xor_atHL
  /-- `XOR A` (R136) -/
  | xor_A
  /-- `OR B` (R139) -/
  | or_B
  /-- `OR C` (R139) -/
  | or_C
  /-- `OR D` (R139) -/
  | or_D
  /-- `OR E` (R139) -/
  | or_E
  /-- `OR H` (R139) -/
  | or_H
  /-- `OR L` (R139) -/
  | or_L
  /-- `OR (HL)` (R140) -/
  | or_atHL
  /-- `OR A` (R139) -/
  | or_A
  /-- `CP B` (R142) -/
  | cp_B
  /-- `CP C` (R142) -/
  | cp_C
  /-- `CP D` (R142) -/
  | cp_D
  /-- `CP E` (R142) -/
  | cp_E
  /-- `CP H` (R142) -/
  | cp_H
  /-- `CP L` (R142) -/
  | cp_L
  /-- `CP (HL)` (R143) -/
  | cp_atHL
  /-- `CP A` (R142) -/
  | cp_A
  /-- `RET NZ` (R209) -/
  | ret_NZ
  /-- `POP BC` (R221) -/
  | pop_BC
  /-- `PUSH BC` (R220) -/
  | push_BC
  /-- `RST 00H` (R211) -/
  | rst_00
  /-- `RET Z` (R209) -/
  | ret_Z
  /-- `RET` (R208) -/
  | ret
  /-- `RST 08H` (R211) -/
  | rst_08
  /-- `RET NC` (R209) -/
  | ret_NC
  /-- `POP DE` (R221) -/
  | pop_DE
  /-- `INVALID 0xD3` (R260) -/
  | invalid_D3
  /-- `PUSH DE` (R220) -/
  | push_DE
  /-- `RST 10H` (R211) -/
  | rst_10
  /-- `RET C` (R209) -/
  | ret_C
  /-- `RETI` (R210) -/
  | reti
  /-- `INVALID 0xDB` (R260) -/
  | invalid_DB
  /-- `INVALID 0xDD` (R260) -/
  | invalid_DD
  /-- `RST 18H` (R211) -/
  | rst_18
  /-- `POP HL` (R221) -/
  | pop_HL
  /-- `LD (C),A` (R244) -/
  | ld_atC_A
  /-- `INVALID 0xE3` (R260) -/
  | invalid_E3
  /-- `INVALID 0xE4` (R260) -/
  | invalid_E4
  /-- `PUSH HL` (R220) -/
  | push_HL
  /-- `RST 20H` (R211) -/
  | rst_20
  /-- `JP HL` (R203) -/
  | jp_HL
  /-- `INVALID 0xEB` (R260) -/
  | invalid_EB
  /-- `INVALID 0xEC` (R260) -/
  | invalid_EC
  /-- `INVALID 0xED` (R260) -/
  | invalid_ED
  /-- `RST 28H` (R211) -/
  | rst_28
  /-- `POP AF` (R222) -/
  | pop_AF
  /-- `LD A,(C)` (R243) -/
  | ld_A_atC
  /-- `DI` (R258) -/
  | di
  /-- `INVALID 0xF4` (R260) -/
  | invalid_F4
  /-- `PUSH AF` (R220) -/
  | push_AF
  /-- `RST 30H` (R211) -/
  | rst_30
  /-- `LD SP,HL` (R225) -/
  | ld_SP_HL
  /-- `EI` (R259) -/
  | ei
  /-- `INVALID 0xFC` (R260) -/
  | invalid_FC
  /-- `INVALID 0xFD` (R260) -/
  | invalid_FD
  /-- `RST 38H` (R211) -/
  | rst_38
  /-- `RLC B` (R175) -/
  | rlc_B
  /-- `RLC C` (R175) -/
  | rlc_C
  /-- `RLC D` (R175) -/
  | rlc_D
  /-- `RLC E` (R175) -/
  | rlc_E
  /-- `RLC H` (R175) -/
  | rlc_H
  /-- `RLC L` (R175) -/
  | rlc_L
  /-- `RLC (HL)` (R176) -/
  | rlc_atHL
  /-- `RLC A` (R175) -/
  | rlc_A
  /-- `RRC B` (R177) -/
  | rrc_B
  /-- `RRC C` (R177) -/
  | rrc_C
  /-- `RRC D` (R177) -/
  | rrc_D
  /-- `RRC E` (R177) -/
  | rrc_E
  /-- `RRC H` (R177) -/
  | rrc_H
  /-- `RRC L` (R177) -/
  | rrc_L
  /-- `RRC (HL)` (R178) -/
  | rrc_atHL
  /-- `RRC A` (R177) -/
  | rrc_A
  /-- `RL B` (R179) -/
  | rl_B
  /-- `RL C` (R179) -/
  | rl_C
  /-- `RL D` (R179) -/
  | rl_D
  /-- `RL E` (R179) -/
  | rl_E
  /-- `RL H` (R179) -/
  | rl_H
  /-- `RL L` (R179) -/
  | rl_L
  /-- `RL (HL)` (R180) -/
  | rl_atHL
  /-- `RL A` (R179) -/
  | rl_A
  /-- `RR B` (R181) -/
  | rr_B
  /-- `RR C` (R181) -/
  | rr_C
  /-- `RR D` (R181) -/
  | rr_D
  /-- `RR E` (R181) -/
  | rr_E
  /-- `RR H` (R181) -/
  | rr_H
  /-- `RR L` (R181) -/
  | rr_L
  /-- `RR (HL)` (R182) -/
  | rr_atHL
  /-- `RR A` (R181) -/
  | rr_A
  /-- `SLA B` (R183) -/
  | sla_B
  /-- `SLA C` (R183) -/
  | sla_C
  /-- `SLA D` (R183) -/
  | sla_D
  /-- `SLA E` (R183) -/
  | sla_E
  /-- `SLA H` (R183) -/
  | sla_H
  /-- `SLA L` (R183) -/
  | sla_L
  /-- `SLA (HL)` (R184) -/
  | sla_atHL
  /-- `SLA A` (R183) -/
  | sla_A
  /-- `SRA B` (R185) -/
  | sra_B
  /-- `SRA C` (R185) -/
  | sra_C
  /-- `SRA D` (R185) -/
  | sra_D
  /-- `SRA E` (R185) -/
  | sra_E
  /-- `SRA H` (R185) -/
  | sra_H
  /-- `SRA L` (R185) -/
  | sra_L
  /-- `SRA (HL)` (R186) -/
  | sra_atHL
  /-- `SRA A` (R185) -/
  | sra_A
  /-- `SWAP B` (R187) -/
  | swap_B
  /-- `SWAP C` (R187) -/
  | swap_C
  /-- `SWAP D` (R187) -/
  | swap_D
  /-- `SWAP E` (R187) -/
  | swap_E
  /-- `SWAP H` (R187) -/
  | swap_H
  /-- `SWAP L` (R187) -/
  | swap_L
  /-- `SWAP (HL)` (R188) -/
  | swap_atHL
  /-- `SWAP A` (R187) -/
  | swap_A
  /-- `SRL B` (R189) -/
  | srl_B
  /-- `SRL C` (R189) -/
  | srl_C
  /-- `SRL D` (R189) -/
  | srl_D
  /-- `SRL E` (R189) -/
  | srl_E
  /-- `SRL H` (R189) -/
  | srl_H
  /-- `SRL L` (R189) -/
  | srl_L
  /-- `SRL (HL)` (R190) -/
  | srl_atHL
  /-- `SRL A` (R189) -/
  | srl_A
  /-- `BIT 0,B` (R191) -/
  | bit_0_B
  /-- `BIT 0,C` (R191) -/
  | bit_0_C
  /-- `BIT 0,D` (R191) -/
  | bit_0_D
  /-- `BIT 0,E` (R191) -/
  | bit_0_E
  /-- `BIT 0,H` (R191) -/
  | bit_0_H
  /-- `BIT 0,L` (R191) -/
  | bit_0_L
  /-- `BIT 0,(HL)` (R192) -/
  | bit_0_atHL
  /-- `BIT 0,A` (R191) -/
  | bit_0_A
  /-- `BIT 1,B` (R191) -/
  | bit_1_B
  /-- `BIT 1,C` (R191) -/
  | bit_1_C
  /-- `BIT 1,D` (R191) -/
  | bit_1_D
  /-- `BIT 1,E` (R191) -/
  | bit_1_E
  /-- `BIT 1,H` (R191) -/
  | bit_1_H
  /-- `BIT 1,L` (R191) -/
  | bit_1_L
  /-- `BIT 1,(HL)` (R192) -/
  | bit_1_atHL
  /-- `BIT 1,A` (R191) -/
  | bit_1_A
  /-- `BIT 2,B` (R191) -/
  | bit_2_B
  /-- `BIT 2,C` (R191) -/
  | bit_2_C
  /-- `BIT 2,D` (R191) -/
  | bit_2_D
  /-- `BIT 2,E` (R191) -/
  | bit_2_E
  /-- `BIT 2,H` (R191) -/
  | bit_2_H
  /-- `BIT 2,L` (R191) -/
  | bit_2_L
  /-- `BIT 2,(HL)` (R192) -/
  | bit_2_atHL
  /-- `BIT 2,A` (R191) -/
  | bit_2_A
  /-- `BIT 3,B` (R191) -/
  | bit_3_B
  /-- `BIT 3,C` (R191) -/
  | bit_3_C
  /-- `BIT 3,D` (R191) -/
  | bit_3_D
  /-- `BIT 3,E` (R191) -/
  | bit_3_E
  /-- `BIT 3,H` (R191) -/
  | bit_3_H
  /-- `BIT 3,L` (R191) -/
  | bit_3_L
  /-- `BIT 3,(HL)` (R192) -/
  | bit_3_atHL
  /-- `BIT 3,A` (R191) -/
  | bit_3_A
  /-- `BIT 4,B` (R191) -/
  | bit_4_B
  /-- `BIT 4,C` (R191) -/
  | bit_4_C
  /-- `BIT 4,D` (R191) -/
  | bit_4_D
  /-- `BIT 4,E` (R191) -/
  | bit_4_E
  /-- `BIT 4,H` (R191) -/
  | bit_4_H
  /-- `BIT 4,L` (R191) -/
  | bit_4_L
  /-- `BIT 4,(HL)` (R192) -/
  | bit_4_atHL
  /-- `BIT 4,A` (R191) -/
  | bit_4_A
  /-- `BIT 5,B` (R191) -/
  | bit_5_B
  /-- `BIT 5,C` (R191) -/
  | bit_5_C
  /-- `BIT 5,D` (R191) -/
  | bit_5_D
  /-- `BIT 5,E` (R191) -/
  | bit_5_E
  /-- `BIT 5,H` (R191) -/
  | bit_5_H
  /-- `BIT 5,L` (R191) -/
  | bit_5_L
  /-- `BIT 5,(HL)` (R192) -/
  | bit_5_atHL
  /-- `BIT 5,A` (R191) -/
  | bit_5_A
  /-- `BIT 6,B` (R191) -/
  | bit_6_B
  /-- `BIT 6,C` (R191) -/
  | bit_6_C
  /-- `BIT 6,D` (R191) -/
  | bit_6_D
  /-- `BIT 6,E` (R191) -/
  | bit_6_E
  /-- `BIT 6,H` (R191) -/
  | bit_6_H
  /-- `BIT 6,L` (R191) -/
  | bit_6_L
  /-- `BIT 6,(HL)` (R192) -/
  | bit_6_atHL
  /-- `BIT 6,A` (R191) -/
  | bit_6_A
  /-- `BIT 7,B` (R191) -/
  | bit_7_B
  /-- `BIT 7,C` (R191) -/
  | bit_7_C
  /-- `BIT 7,D` (R191) -/
  | bit_7_D
  /-- `BIT 7,E` (R191) -/
  | bit_7_E
  /-- `BIT 7,H` (R191) -/
  | bit_7_H
  /-- `BIT 7,L` (R191) -/
  | bit_7_L
  /-- `BIT 7,(HL)` (R192) -/
  | bit_7_atHL
  /-- `BIT 7,A` (R191) -/
  | bit_7_A
  /-- `RES 0,B` (R193) -/
  | res_0_B
  /-- `RES 0,C` (R193) -/
  | res_0_C
  /-- `RES 0,D` (R193) -/
  | res_0_D
  /-- `RES 0,E` (R193) -/
  | res_0_E
  /-- `RES 0,H` (R193) -/
  | res_0_H
  /-- `RES 0,L` (R193) -/
  | res_0_L
  /-- `RES 0,(HL)` (R194) -/
  | res_0_atHL
  /-- `RES 0,A` (R193) -/
  | res_0_A
  /-- `RES 1,B` (R193) -/
  | res_1_B
  /-- `RES 1,C` (R193) -/
  | res_1_C
  /-- `RES 1,D` (R193) -/
  | res_1_D
  /-- `RES 1,E` (R193) -/
  | res_1_E
  /-- `RES 1,H` (R193) -/
  | res_1_H
  /-- `RES 1,L` (R193) -/
  | res_1_L
  /-- `RES 1,(HL)` (R194) -/
  | res_1_atHL
  /-- `RES 1,A` (R193) -/
  | res_1_A
  /-- `RES 2,B` (R193) -/
  | res_2_B
  /-- `RES 2,C` (R193) -/
  | res_2_C
  /-- `RES 2,D` (R193) -/
  | res_2_D
  /-- `RES 2,E` (R193) -/
  | res_2_E
  /-- `RES 2,H` (R193) -/
  | res_2_H
  /-- `RES 2,L` (R193) -/
  | res_2_L
  /-- `RES 2,(HL)` (R194) -/
  | res_2_atHL
  /-- `RES 2,A` (R193) -/
  | res_2_A
  /-- `RES 3,B` (R193) -/
  | res_3_B
  /-- `RES 3,C` (R193) -/
  | res_3_C
  /-- `RES 3,D` (R193) -/
  | res_3_D
  /-- `RES 3,E` (R193) -/
  | res_3_E
  /-- `RES 3,H` (R193) -/
  | res_3_H
  /-- `RES 3,L` (R193) -/
  | res_3_L
  /-- `RES 3,(HL)` (R194) -/
  | res_3_atHL
  /-- `RES 3,A` (R193) -/
  | res_3_A
  /-- `RES 4,B` (R193) -/
  | res_4_B
  /-- `RES 4,C` (R193) -/
  | res_4_C
  /-- `RES 4,D` (R193) -/
  | res_4_D
  /-- `RES 4,E` (R193) -/
  | res_4_E
  /-- `RES 4,H` (R193) -/
  | res_4_H
  /-- `RES 4,L` (R193) -/
  | res_4_L
  /-- `RES 4,(HL)` (R194) -/
  | res_4_atHL
  /-- `RES 4,A` (R193) -/
  | res_4_A
  /-- `RES 5,B` (R193) -/
  | res_5_B
  /-- `RES 5,C` (R193) -/
  | res_5_C
  /-- `RES 5,D` (R193) -/
  | res_5_D
  /-- `RES 5,E` (R193) -/
  | res_5_E
  /-- `RES 5,H` (R193) -/
  | res_5_H
  /-- `RES 5,L` (R193) -/
  | res_5_L
  /-- `RES 5,(HL)` (R194) -/
  | res_5_atHL
  /-- `RES 5,A` (R193) -/
  | res_5_A
  /-- `RES 6,B` (R193) -/
  | res_6_B
  /-- `RES 6,C` (R193) -/
  | res_6_C
  /-- `RES 6,D` (R193) -/
  | res_6_D
  /-- `RES 6,E` (R193) -/
  | res_6_E
  /-- `RES 6,H` (R193) -/
  | res_6_H
  /-- `RES 6,L` (R193) -/
  | res_6_L
  /-- `RES 6,(HL)` (R194) -/
  | res_6_atHL
  /-- `RES 6,A` (R193) -/
  | res_6_A
  /-- `RES 7,B` (R193) -/
  | res_7_B
  /-- `RES 7,C` (R193) -/
  | res_7_C
  /-- `RES 7,D` (R193) -/
  | res_7_D
  /-- `RES 7,E` (R193) -/
  | res_7_E
  /-- `RES 7,H` (R193) -/
  | res_7_H
  /-- `RES 7,L` (R193) -/
  | res_7_L
  /-- `RES 7,(HL)` (R194) -/
  | res_7_atHL
  /-- `RES 7,A` (R193) -/
  | res_7_A
  /-- `SET 0,B` (R195) -/
  | set_0_B
  /-- `SET 0,C` (R195) -/
  | set_0_C
  /-- `SET 0,D` (R195) -/
  | set_0_D
  /-- `SET 0,E` (R195) -/
  | set_0_E
  /-- `SET 0,H` (R195) -/
  | set_0_H
  /-- `SET 0,L` (R195) -/
  | set_0_L
  /-- `SET 0,(HL)` (R196) -/
  | set_0_atHL
  /-- `SET 0,A` (R195) -/
  | set_0_A
  /-- `SET 1,B` (R195) -/
  | set_1_B
  /-- `SET 1,C` (R195) -/
  | set_1_C
  /-- `SET 1,D` (R195) -/
  | set_1_D
  /-- `SET 1,E` (R195) -/
  | set_1_E
  /-- `SET 1,H` (R195) -/
  | set_1_H
  /-- `SET 1,L` (R195) -/
  | set_1_L
  /-- `SET 1,(HL)` (R196) -/
  | set_1_atHL
  /-- `SET 1,A` (R195) -/
  | set_1_A
  /-- `SET 2,B` (R195) -/
  | set_2_B
  /-- `SET 2,C` (R195) -/
  | set_2_C
  /-- `SET 2,D` (R195) -/
  | set_2_D
  /-- `SET 2,E` (R195) -/
  | set_2_E
  /-- `SET 2,H` (R195) -/
  | set_2_H
  /-- `SET 2,L` (R195) -/
  | set_2_L
  /-- `SET 2,(HL)` (R196) -/
  | set_2_atHL
  /-- `SET 2,A` (R195) -/
  | set_2_A
  /-- `SET 3,B` (R195) -/
  | set_3_B
  /-- `SET 3,C` (R195) -/
  | set_3_C
  /-- `SET 3,D` (R195) -/
  | set_3_D
  /-- `SET 3,E` (R195) -/
  | set_3_E
  /-- `SET 3,H` (R195) -/
  | set_3_H
  /-- `SET 3,L` (R195) -/
  | set_3_L
  /-- `SET 3,(HL)` (R196) -/
  | set_3_atHL
  /-- `SET 3,A` (R195) -/
  | set_3_A
  /-- `SET 4,B` (R195) -/
  | set_4_B
  /-- `SET 4,C` (R195) -/
  | set_4_C
  /-- `SET 4,D` (R195) -/
  | set_4_D
  /-- `SET 4,E` (R195) -/
  | set_4_E
  /-- `SET 4,H` (R195) -/
  | set_4_H
  /-- `SET 4,L` (R195) -/
  | set_4_L
  /-- `SET 4,(HL)` (R196) -/
  | set_4_atHL
  /-- `SET 4,A` (R195) -/
  | set_4_A
  /-- `SET 5,B` (R195) -/
  | set_5_B
  /-- `SET 5,C` (R195) -/
  | set_5_C
  /-- `SET 5,D` (R195) -/
  | set_5_D
  /-- `SET 5,E` (R195) -/
  | set_5_E
  /-- `SET 5,H` (R195) -/
  | set_5_H
  /-- `SET 5,L` (R195) -/
  | set_5_L
  /-- `SET 5,(HL)` (R196) -/
  | set_5_atHL
  /-- `SET 5,A` (R195) -/
  | set_5_A
  /-- `SET 6,B` (R195) -/
  | set_6_B
  /-- `SET 6,C` (R195) -/
  | set_6_C
  /-- `SET 6,D` (R195) -/
  | set_6_D
  /-- `SET 6,E` (R195) -/
  | set_6_E
  /-- `SET 6,H` (R195) -/
  | set_6_H
  /-- `SET 6,L` (R195) -/
  | set_6_L
  /-- `SET 6,(HL)` (R196) -/
  | set_6_atHL
  /-- `SET 6,A` (R195) -/
  | set_6_A
  /-- `SET 7,B` (R195) -/
  | set_7_B
  /-- `SET 7,C` (R195) -/
  | set_7_C
  /-- `SET 7,D` (R195) -/
  | set_7_D
  /-- `SET 7,E` (R195) -/
  | set_7_E
  /-- `SET 7,H` (R195) -/
  | set_7_H
  /-- `SET 7,L` (R195) -/
  | set_7_L
  /-- `SET 7,(HL)` (R196) -/
  | set_7_atHL
  /-- `SET 7,A` (R195) -/
  | set_7_A
  deriving DecidableEq, Repr

end Sys2Proof
end

