-- ==== Sys2Proof/WellFormed.lean ====
section
/-! DEFINITION. Which terms of Instr are instructions of the machine. The operand fields have exactly the widths of the encoding and
no operand value inside a valid opcode is reserved (30_encoding.md rule R106), so ONE check remains: the catalog entry `PREFIX CB` is not an
instruction (R105). -/
namespace Sys2Proof

/-- The catalog entry of the marker byte 0xCB, which is never executed by itself (R105, R261). -/
def Instr.isPrefixEntry : Instr → Bool
  | .prefix_CB _ => true
  | _ => false

/-- An instruction that the decoder can yield. -/
def Instr.wellFormed (i : Instr) : Bool := !i.isPrefixEntry

end Sys2Proof
end

