-- ==== Sys2Proof/Decode.lean ====
section
/-! DEFINITION. Decoding (30_encoding.md rules R90 to R108) and, after it, encoding. The decoder follows the spec's decomposition of
an opcode byte into fields; the encoder is a listing of the opcode of each instruction, so that their agreement is a fact to prove. -/
namespace Sys2Proof

/-! ### The catalog by operands: which instruction an operation and its operands name -/

/-- Quadrant 1 (R100): `LD x[y],x[z]`, with HALT in the place of `LD (HL),(HL)`. -/
def loadInstr : Operand8 → Operand8 → Instr
  | .reg .b, .reg .b => .ld_B_B
  | .reg .b, .reg .c => .ld_B_C
  | .reg .b, .reg .d => .ld_B_D
  | .reg .b, .reg .e => .ld_B_E
  | .reg .b, .reg .h => .ld_B_H
  | .reg .b, .reg .l => .ld_B_L
  | .reg .b, .atHL => .ld_B_atHL
  | .reg .b, .reg .a => .ld_B_A
  | .reg .c, .reg .b => .ld_C_B
  | .reg .c, .reg .c => .ld_C_C
  | .reg .c, .reg .d => .ld_C_D
  | .reg .c, .reg .e => .ld_C_E
  | .reg .c, .reg .h => .ld_C_H
  | .reg .c, .reg .l => .ld_C_L
  | .reg .c, .atHL => .ld_C_atHL
  | .reg .c, .reg .a => .ld_C_A
  | .reg .d, .reg .b => .ld_D_B
  | .reg .d, .reg .c => .ld_D_C
  | .reg .d, .reg .d => .ld_D_D
  | .reg .d, .reg .e => .ld_D_E
  | .reg .d, .reg .h => .ld_D_H
  | .reg .d, .reg .l => .ld_D_L
  | .reg .d, .atHL => .ld_D_atHL
  | .reg .d, .reg .a => .ld_D_A
  | .reg .e, .reg .b => .ld_E_B
  | .reg .e, .reg .c => .ld_E_C
  | .reg .e, .reg .d => .ld_E_D
  | .reg .e, .reg .e => .ld_E_E
  | .reg .e, .reg .h => .ld_E_H
  | .reg .e, .reg .l => .ld_E_L
  | .reg .e, .atHL => .ld_E_atHL
  | .reg .e, .reg .a => .ld_E_A
  | .reg .h, .reg .b => .ld_H_B
  | .reg .h, .reg .c => .ld_H_C
  | .reg .h, .reg .d => .ld_H_D
  | .reg .h, .reg .e => .ld_H_E
  | .reg .h, .reg .h => .ld_H_H
  | .reg .h, .reg .l => .ld_H_L
  | .reg .h, .atHL => .ld_H_atHL
  | .reg .h, .reg .a => .ld_H_A
  | .reg .l, .reg .b => .ld_L_B
  | .reg .l, .reg .c => .ld_L_C
  | .reg .l, .reg .d => .ld_L_D
  | .reg .l, .reg .e => .ld_L_E
  | .reg .l, .reg .h => .ld_L_H
  | .reg .l, .reg .l => .ld_L_L
  | .reg .l, .atHL => .ld_L_atHL
  | .reg .l, .reg .a => .ld_L_A
  | .atHL, .reg .b => .ld_atHL_B
  | .atHL, .reg .c => .ld_atHL_C
  | .atHL, .reg .d => .ld_atHL_D
  | .atHL, .reg .e => .ld_atHL_E
  | .atHL, .reg .h => .ld_atHL_H
  | .atHL, .reg .l => .ld_atHL_L
  | .atHL, .atHL => .halt
  | .atHL, .reg .a => .ld_atHL_A
  | .reg .a, .reg .b => .ld_A_B
  | .reg .a, .reg .c => .ld_A_C
  | .reg .a, .reg .d => .ld_A_D
  | .reg .a, .reg .e => .ld_A_E
  | .reg .a, .reg .h => .ld_A_H
  | .reg .a, .reg .l => .ld_A_L
  | .reg .a, .atHL => .ld_A_atHL
  | .reg .a, .reg .a => .ld_A_A

/-- Quadrant 2 (R101): `alu[y] A,x[z]`. -/
def aluInstr : AluOp → Operand8 → Instr
  | .add, .reg .b => .add_A_B
  | .add, .reg .c => .add_A_C
  | .add, .reg .d => .add_A_D
  | .add, .reg .e => .add_A_E
  | .add, .reg .h => .add_A_H
  | .add, .reg .l => .add_A_L
  | .add, .atHL => .add_A_atHL
  | .add, .reg .a => .add_A_A
  | .adc, .reg .b => .adc_A_B
  | .adc, .reg .c => .adc_A_C
  | .adc, .reg .d => .adc_A_D
  | .adc, .reg .e => .adc_A_E
  | .adc, .reg .h => .adc_A_H
  | .adc, .reg .l => .adc_A_L
  | .adc, .atHL => .adc_A_atHL
  | .adc, .reg .a => .adc_A_A
  | .sub, .reg .b => .sub_B
  | .sub, .reg .c => .sub_C
  | .sub, .reg .d => .sub_D
  | .sub, .reg .e => .sub_E
  | .sub, .reg .h => .sub_H
  | .sub, .reg .l => .sub_L
  | .sub, .atHL => .sub_atHL
  | .sub, .reg .a => .sub_A
  | .sbc, .reg .b => .sbc_A_B
  | .sbc, .reg .c => .sbc_A_C
  | .sbc, .reg .d => .sbc_A_D
  | .sbc, .reg .e => .sbc_A_E
  | .sbc, .reg .h => .sbc_A_H
  | .sbc, .reg .l => .sbc_A_L
  | .sbc, .atHL => .sbc_A_atHL
  | .sbc, .reg .a => .sbc_A_A
  | .and, .reg .b => .and_B
  | .and, .reg .c => .and_C
  | .and, .reg .d => .and_D
  | .and, .reg .e => .and_E
  | .and, .reg .h => .and_H
  | .and, .reg .l => .and_L
  | .and, .atHL => .and_atHL
  | .and, .reg .a => .and_A
  | .xor, .reg .b => .xor_B
  | .xor, .reg .c => .xor_C
  | .xor, .reg .d => .xor_D
  | .xor, .reg .e => .xor_E
  | .xor, .reg .h => .xor_H
  | .xor, .reg .l => .xor_L
  | .xor, .atHL => .xor_atHL
  | .xor, .reg .a => .xor_A
  | .or, .reg .b => .or_B
  | .or, .reg .c => .or_C
  | .or, .reg .d => .or_D
  | .or, .reg .e => .or_E
  | .or, .reg .h => .or_H
  | .or, .reg .l => .or_L
  | .or, .atHL => .or_atHL
  | .or, .reg .a => .or_A
  | .cp, .reg .b => .cp_B
  | .cp, .reg .c => .cp_C
  | .cp, .reg .d => .cp_D
  | .cp, .reg .e => .cp_E
  | .cp, .reg .h => .cp_H
  | .cp, .reg .l => .cp_L
  | .cp, .atHL => .cp_atHL
  | .cp, .reg .a => .cp_A

/-- Quadrant 3, column 6 (R102): `alu[y] A,n`. -/
def aluImmInstr (n : Byte) : AluOp → Instr
  | .add => .add_A_n n
  | .adc => .adc_A_n n
  | .sub => .sub_n n
  | .sbc => .sbc_A_n n
  | .and => .and_n n
  | .xor => .xor_n n
  | .or => .or_n n
  | .cp => .cp_n n

/-- Quadrant 0, column 4 (R99). -/
def incInstr : Operand8 → Instr
  | .reg .b => .inc_B
  | .reg .c => .inc_C
  | .reg .d => .inc_D
  | .reg .e => .inc_E
  | .reg .h => .inc_H
  | .reg .l => .inc_L
  | .atHL => .inc_atHL
  | .reg .a => .inc_A

/-- Quadrant 0, column 5 (R99). -/
def decInstr : Operand8 → Instr
  | .reg .b => .dec_B
  | .reg .c => .dec_C
  | .reg .d => .dec_D
  | .reg .e => .dec_E
  | .reg .h => .dec_H
  | .reg .l => .dec_L
  | .atHL => .dec_atHL
  | .reg .a => .dec_A

/-- Quadrant 0, column 6 (R99). -/
def loadImmInstr (n : Byte) : Operand8 → Instr
  | .reg .b => .ld_B_n n
  | .reg .c => .ld_C_n n
  | .reg .d => .ld_D_n n
  | .reg .e => .ld_E_n n
  | .reg .h => .ld_H_n n
  | .reg .l => .ld_L_n n
  | .atHL => .ld_atHL_n n
  | .reg .a => .ld_A_n n

/-- Quadrant 0, column 1, q = 0 (R99). -/
def loadPairInstr (nn : Word) : Pair → Instr
  | .bc => .ld_BC_nn nn
  | .de => .ld_DE_nn nn
  | .hl => .ld_HL_nn nn
  | .sp => .ld_SP_nn nn

/-- Quadrant 0, column 1, q = 1 (R99). -/
def addHlInstr : Pair → Instr
  | .bc => .add_HL_BC
  | .de => .add_HL_DE
  | .hl => .add_HL_HL
  | .sp => .add_HL_SP

/-- Quadrant 0, column 3, q = 0 (R99). -/
def incPairInstr : Pair → Instr
  | .bc => .inc_BC
  | .de => .inc_DE
  | .hl => .inc_HL
  | .sp => .inc_SP

/-- Quadrant 0, column 3, q = 1 (R99). -/
def decPairInstr : Pair → Instr
  | .bc => .dec_BC
  | .de => .dec_DE
  | .hl => .dec_HL
  | .sp => .dec_SP

/-- Quadrant 3, column 5, q = 0 (R102). -/
def pushInstr : StackPair → Instr
  | .bc => .push_BC
  | .de => .push_DE
  | .hl => .push_HL
  | .af => .push_AF

/-- Quadrant 3, column 1, q = 0 (R102). -/
def popInstr : StackPair → Instr
  | .bc => .pop_BC
  | .de => .pop_DE
  | .hl => .pop_HL
  | .af => .pop_AF

/-- Quadrant 3, column 2 (R102). -/
def jumpIfInstr (nn : Word) : Cond → Instr
  | .nz => .jp_NZ_nn nn
  | .z => .jp_Z_nn nn
  | .nc => .jp_NC_nn nn
  | .c => .jp_C_nn nn

/-- Quadrant 3, column 4 (R102). -/
def callIfInstr (nn : Word) : Cond → Instr
  | .nz => .call_NZ_nn nn
  | .z => .call_Z_nn nn
  | .nc => .call_NC_nn nn
  | .c => .call_C_nn nn

/-- Quadrant 3, column 0 (R102). -/
def retIfInstr : Cond → Instr
  | .nz => .ret_NZ
  | .z => .ret_Z
  | .nc => .ret_NC
  | .c => .ret_C

/-- Quadrant 0, column 0, y = 4 to 7 (R99). -/
def jumpRelIfInstr (e : Byte) : Cond → Instr
  | .nz => .jr_NZ_e e
  | .z => .jr_Z_e e
  | .nc => .jr_NC_e e
  | .c => .jr_C_e e

/-- Quadrant 3, column 7 (R102): target 8 * y. -/
def rstInstr : Code3 → Instr
  | .k0 => .rst_00
  | .k1 => .rst_08
  | .k2 => .rst_10
  | .k3 => .rst_18
  | .k4 => .rst_20
  | .k5 => .rst_28
  | .k6 => .rst_30
  | .k7 => .rst_38

/-- Extended page, x = 0 (R104). -/
def rotInstr : RotOp → Operand8 → Instr
  | .rlc, .reg .b => .rlc_B
  | .rlc, .reg .c => .rlc_C
  | .rlc, .reg .d => .rlc_D
  | .rlc, .reg .e => .rlc_E
  | .rlc, .reg .h => .rlc_H
  | .rlc, .reg .l => .rlc_L
  | .rlc, .atHL => .rlc_atHL
  | .rlc, .reg .a => .rlc_A
  | .rrc, .reg .b => .rrc_B
  | .rrc, .reg .c => .rrc_C
  | .rrc, .reg .d => .rrc_D
  | .rrc, .reg .e => .rrc_E
  | .rrc, .reg .h => .rrc_H
  | .rrc, .reg .l => .rrc_L
  | .rrc, .atHL => .rrc_atHL
  | .rrc, .reg .a => .rrc_A
  | .rl, .reg .b => .rl_B
  | .rl, .reg .c => .rl_C
  | .rl, .reg .d => .rl_D
  | .rl, .reg .e => .rl_E
  | .rl, .reg .h => .rl_H
  | .rl, .reg .l => .rl_L
  | .rl, .atHL => .rl_atHL
  | .rl, .reg .a => .rl_A
  | .rr, .reg .b => .rr_B
  | .rr, .reg .c => .rr_C
  | .rr, .reg .d => .rr_D
  | .rr, .reg .e => .rr_E
  | .rr, .reg .h => .rr_H
  | .rr, .reg .l => .rr_L
  | .rr, .atHL => .rr_atHL
  | .rr, .reg .a => .rr_A
  | .sla, .reg .b => .sla_B
  | .sla, .reg .c => .sla_C
  | .sla, .reg .d => .sla_D
  | .sla, .reg .e => .sla_E
  | .sla, .reg .h => .sla_H
  | .sla, .reg .l => .sla_L
  | .sla, .atHL => .sla_atHL
  | .sla, .reg .a => .sla_A
  | .sra, .reg .b => .sra_B
  | .sra, .reg .c => .sra_C
  | .sra, .reg .d => .sra_D
  | .sra, .reg .e => .sra_E
  | .sra, .reg .h => .sra_H
  | .sra, .reg .l => .sra_L
  | .sra, .atHL => .sra_atHL
  | .sra, .reg .a => .sra_A
  | .swap, .reg .b => .swap_B
  | .swap, .reg .c => .swap_C
  | .swap, .reg .d => .swap_D
  | .swap, .reg .e => .swap_E
  | .swap, .reg .h => .swap_H
  | .swap, .reg .l => .swap_L
  | .swap, .atHL => .swap_atHL
  | .swap, .reg .a => .swap_A
  | .srl, .reg .b => .srl_B
  | .srl, .reg .c => .srl_C
  | .srl, .reg .d => .srl_D
  | .srl, .reg .e => .srl_E
  | .srl, .reg .h => .srl_H
  | .srl, .reg .l => .srl_L
  | .srl, .atHL => .srl_atHL
  | .srl, .reg .a => .srl_A

/-- Extended page, x = 1 (R104). -/
def bitInstr : Code3 → Operand8 → Instr
  | .k0, .reg .b => .bit_0_B
  | .k0, .reg .c => .bit_0_C
  | .k0, .reg .d => .bit_0_D
  | .k0, .reg .e => .bit_0_E
  | .k0, .reg .h => .bit_0_H
  | .k0, .reg .l => .bit_0_L
  | .k0, .atHL => .bit_0_atHL
  | .k0, .reg .a => .bit_0_A
  | .k1, .reg .b => .bit_1_B
  | .k1, .reg .c => .bit_1_C
  | .k1, .reg .d => .bit_1_D
  | .k1, .reg .e => .bit_1_E
  | .k1, .reg .h => .bit_1_H
  | .k1, .reg .l => .bit_1_L
  | .k1, .atHL => .bit_1_atHL
  | .k1, .reg .a => .bit_1_A
  | .k2, .reg .b => .bit_2_B
  | .k2, .reg .c => .bit_2_C
  | .k2, .reg .d => .bit_2_D
  | .k2, .reg .e => .bit_2_E
  | .k2, .reg .h => .bit_2_H
  | .k2, .reg .l => .bit_2_L
  | .k2, .atHL => .bit_2_atHL
  | .k2, .reg .a => .bit_2_A
  | .k3, .reg .b => .bit_3_B
  | .k3, .reg .c => .bit_3_C
  | .k3, .reg .d => .bit_3_D
  | .k3, .reg .e => .bit_3_E
  | .k3, .reg .h => .bit_3_H
  | .k3, .reg .l => .bit_3_L
  | .k3, .atHL => .bit_3_atHL
  | .k3, .reg .a => .bit_3_A
  | .k4, .reg .b => .bit_4_B
  | .k4, .reg .c => .bit_4_C
  | .k4, .reg .d => .bit_4_D
  | .k4, .reg .e => .bit_4_E
  | .k4, .reg .h => .bit_4_H
  | .k4, .reg .l => .bit_4_L
  | .k4, .atHL => .bit_4_atHL
  | .k4, .reg .a => .bit_4_A
  | .k5, .reg .b => .bit_5_B
  | .k5, .reg .c => .bit_5_C
  | .k5, .reg .d => .bit_5_D
  | .k5, .reg .e => .bit_5_E
  | .k5, .reg .h => .bit_5_H
  | .k5, .reg .l => .bit_5_L
  | .k5, .atHL => .bit_5_atHL
  | .k5, .reg .a => .bit_5_A
  | .k6, .reg .b => .bit_6_B
  | .k6, .reg .c => .bit_6_C
  | .k6, .reg .d => .bit_6_D
  | .k6, .reg .e => .bit_6_E
  | .k6, .reg .h => .bit_6_H
  | .k6, .reg .l => .bit_6_L
  | .k6, .atHL => .bit_6_atHL
  | .k6, .reg .a => .bit_6_A
  | .k7, .reg .b => .bit_7_B
  | .k7, .reg .c => .bit_7_C
  | .k7, .reg .d => .bit_7_D
  | .k7, .reg .e => .bit_7_E
  | .k7, .reg .h => .bit_7_H
  | .k7, .reg .l => .bit_7_L
  | .k7, .atHL => .bit_7_atHL
  | .k7, .reg .a => .bit_7_A

/-- Extended page, x = 2 (R104). -/
def resInstr : Code3 → Operand8 → Instr
  | .k0, .reg .b => .res_0_B
  | .k0, .reg .c => .res_0_C
  | .k0, .reg .d => .res_0_D
  | .k0, .reg .e => .res_0_E
  | .k0, .reg .h => .res_0_H
  | .k0, .reg .l => .res_0_L
  | .k0, .atHL => .res_0_atHL
  | .k0, .reg .a => .res_0_A
  | .k1, .reg .b => .res_1_B
  | .k1, .reg .c => .res_1_C
  | .k1, .reg .d => .res_1_D
  | .k1, .reg .e => .res_1_E
  | .k1, .reg .h => .res_1_H
  | .k1, .reg .l => .res_1_L
  | .k1, .atHL => .res_1_atHL
  | .k1, .reg .a => .res_1_A
  | .k2, .reg .b => .res_2_B
  | .k2, .reg .c => .res_2_C
  | .k2, .reg .d => .res_2_D
  | .k2, .reg .e => .res_2_E
  | .k2, .reg .h => .res_2_H
  | .k2, .reg .l => .res_2_L
  | .k2, .atHL => .res_2_atHL
  | .k2, .reg .a => .res_2_A
  | .k3, .reg .b => .res_3_B
  | .k3, .reg .c => .res_3_C
  | .k3, .reg .d => .res_3_D
  | .k3, .reg .e => .res_3_E
  | .k3, .reg .h => .res_3_H
  | .k3, .reg .l => .res_3_L
  | .k3, .atHL => .res_3_atHL
  | .k3, .reg .a => .res_3_A
  | .k4, .reg .b => .res_4_B
  | .k4, .reg .c => .res_4_C
  | .k4, .reg .d => .res_4_D
  | .k4, .reg .e => .res_4_E
  | .k4, .reg .h => .res_4_H
  | .k4, .reg .l => .res_4_L
  | .k4, .atHL => .res_4_atHL
  | .k4, .reg .a => .res_4_A
  | .k5, .reg .b => .res_5_B
  | .k5, .reg .c => .res_5_C
  | .k5, .reg .d => .res_5_D
  | .k5, .reg .e => .res_5_E
  | .k5, .reg .h => .res_5_H
  | .k5, .reg .l => .res_5_L
  | .k5, .atHL => .res_5_atHL
  | .k5, .reg .a => .res_5_A
  | .k6, .reg .b => .res_6_B
  | .k6, .reg .c => .res_6_C
  | .k6, .reg .d => .res_6_D
  | .k6, .reg .e => .res_6_E
  | .k6, .reg .h => .res_6_H
  | .k6, .reg .l => .res_6_L
  | .k6, .atHL => .res_6_atHL
  | .k6, .reg .a => .res_6_A
  | .k7, .reg .b => .res_7_B
  | .k7, .reg .c => .res_7_C
  | .k7, .reg .d => .res_7_D
  | .k7, .reg .e => .res_7_E
  | .k7, .reg .h => .res_7_H
  | .k7, .reg .l => .res_7_L
  | .k7, .atHL => .res_7_atHL
  | .k7, .reg .a => .res_7_A

/-- Extended page, x = 3 (R104). -/
def setInstr : Code3 → Operand8 → Instr
  | .k0, .reg .b => .set_0_B
  | .k0, .reg .c => .set_0_C
  | .k0, .reg .d => .set_0_D
  | .k0, .reg .e => .set_0_E
  | .k0, .reg .h => .set_0_H
  | .k0, .reg .l => .set_0_L
  | .k0, .atHL => .set_0_atHL
  | .k0, .reg .a => .set_0_A
  | .k1, .reg .b => .set_1_B
  | .k1, .reg .c => .set_1_C
  | .k1, .reg .d => .set_1_D
  | .k1, .reg .e => .set_1_E
  | .k1, .reg .h => .set_1_H
  | .k1, .reg .l => .set_1_L
  | .k1, .atHL => .set_1_atHL
  | .k1, .reg .a => .set_1_A
  | .k2, .reg .b => .set_2_B
  | .k2, .reg .c => .set_2_C
  | .k2, .reg .d => .set_2_D
  | .k2, .reg .e => .set_2_E
  | .k2, .reg .h => .set_2_H
  | .k2, .reg .l => .set_2_L
  | .k2, .atHL => .set_2_atHL
  | .k2, .reg .a => .set_2_A
  | .k3, .reg .b => .set_3_B
  | .k3, .reg .c => .set_3_C
  | .k3, .reg .d => .set_3_D
  | .k3, .reg .e => .set_3_E
  | .k3, .reg .h => .set_3_H
  | .k3, .reg .l => .set_3_L
  | .k3, .atHL => .set_3_atHL
  | .k3, .reg .a => .set_3_A
  | .k4, .reg .b => .set_4_B
  | .k4, .reg .c => .set_4_C
  | .k4, .reg .d => .set_4_D
  | .k4, .reg .e => .set_4_E
  | .k4, .reg .h => .set_4_H
  | .k4, .reg .l => .set_4_L
  | .k4, .atHL => .set_4_atHL
  | .k4, .reg .a => .set_4_A
  | .k5, .reg .b => .set_5_B
  | .k5, .reg .c => .set_5_C
  | .k5, .reg .d => .set_5_D
  | .k5, .reg .e => .set_5_E
  | .k5, .reg .h => .set_5_H
  | .k5, .reg .l => .set_5_L
  | .k5, .atHL => .set_5_atHL
  | .k5, .reg .a => .set_5_A
  | .k6, .reg .b => .set_6_B
  | .k6, .reg .c => .set_6_C
  | .k6, .reg .d => .set_6_D
  | .k6, .reg .e => .set_6_E
  | .k6, .reg .h => .set_6_H
  | .k6, .reg .l => .set_6_L
  | .k6, .atHL => .set_6_atHL
  | .k6, .reg .a => .set_6_A
  | .k7, .reg .b => .set_7_B
  | .k7, .reg .c => .set_7_C
  | .k7, .reg .d => .set_7_D
  | .k7, .reg .e => .set_7_E
  | .k7, .reg .h => .set_7_H
  | .k7, .reg .l => .set_7_L
  | .k7, .atHL => .set_7_atHL
  | .k7, .reg .a => .set_7_A

/-! ### The decoder -/

/-- Quadrant `x = 0` by column `z` (R99). -/
def decodeQuadrant0 (y z : Code3) (n : Byte) (nn : Word) : Instr :=
  match z, y with
  | .k0, .k0 => .nop
  | .k0, .k1 => .ld_atnn_SP nn
  | .k0, .k2 => .stop n
  | .k0, .k3 => .jr_e n
  | .k0, .k4 => jumpRelIfInstr n .nz
  | .k0, .k5 => jumpRelIfInstr n .z
  | .k0, .k6 => jumpRelIfInstr n .nc
  | .k0, .k7 => jumpRelIfInstr n .c
  | .k1, .k0 => loadPairInstr nn .bc
  | .k1, .k1 => addHlInstr .bc
  | .k1, .k2 => loadPairInstr nn .de
  | .k1, .k3 => addHlInstr .de
  | .k1, .k4 => loadPairInstr nn .hl
  | .k1, .k5 => addHlInstr .hl
  | .k1, .k6 => loadPairInstr nn .sp
  | .k1, .k7 => addHlInstr .sp
  | .k2, .k0 => .ld_atBC_A
  | .k2, .k1 => .ld_A_atBC
  | .k2, .k2 => .ld_atDE_A
  | .k2, .k3 => .ld_A_atDE
  | .k2, .k4 => .ld_atHLinc_A
  | .k2, .k5 => .ld_A_atHLinc
  | .k2, .k6 => .ld_atHLdec_A
  | .k2, .k7 => .ld_A_atHLdec
  | .k3, .k0 => incPairInstr .bc
  | .k3, .k1 => decPairInstr .bc
  | .k3, .k2 => incPairInstr .de
  | .k3, .k3 => decPairInstr .de
  | .k3, .k4 => incPairInstr .hl
  | .k3, .k5 => decPairInstr .hl
  | .k3, .k6 => incPairInstr .sp
  | .k3, .k7 => decPairInstr .sp
  | .k4, y => incInstr (operand8Of y)
  | .k5, y => decInstr (operand8Of y)
  | .k6, y => loadImmInstr n (operand8Of y)
  | .k7, .k0 => .rlca
  | .k7, .k1 => .rrca
  | .k7, .k2 => .rla
  | .k7, .k3 => .rra
  | .k7, .k4 => .daa
  | .k7, .k5 => .cpl
  | .k7, .k6 => .scf
  | .k7, .k7 => .ccf

/-- Quadrant `x = 3` by column `z` (R102). The marker 0xCB (column 3, y = 1) does not reach this function from `decode`; its
entry is the catalog's own (R105, R261). -/
def decodeQuadrant3 (y z : Code3) (n : Byte) (nn : Word) : Instr :=
  match z, y with
  | .k0, .k0 => retIfInstr .nz
  | .k0, .k1 => retIfInstr .z
  | .k0, .k2 => retIfInstr .nc
  | .k0, .k3 => retIfInstr .c
  | .k0, .k4 => .ldh_atn_A n
  | .k0, .k5 => .add_SP_e n
  | .k0, .k6 => .ldh_A_atn n
  | .k0, .k7 => .ld_HL_SPe n
  | .k1, .k0 => popInstr .bc
  | .k1, .k1 => .ret
  | .k1, .k2 => popInstr .de
  | .k1, .k3 => .reti
  | .k1, .k4 => popInstr .hl
  | .k1, .k5 => .jp_HL
  | .k1, .k6 => popInstr .af
  | .k1, .k7 => .ld_SP_HL
  | .k2, .k0 => jumpIfInstr nn .nz
  | .k2, .k1 => jumpIfInstr nn .z
  | .k2, .k2 => jumpIfInstr nn .nc
  | .k2, .k3 => jumpIfInstr nn .c
  | .k2, .k4 => .ld_atC_A
  | .k2, .k5 => .ld_atnn_A nn
  | .k2, .k6 => .ld_A_atC
  | .k2, .k7 => .ld_A_atnn nn
  | .k3, .k0 => .jp_nn nn
  | .k3, .k1 => .prefix_CB n
  | .k3, .k2 => .invalid_D3
  | .k3, .k3 => .invalid_DB
  | .k3, .k4 => .invalid_E3
  | .k3, .k5 => .invalid_EB
  | .k3, .k6 => .di
  | .k3, .k7 => .ei
  | .k4, .k0 => callIfInstr nn .nz
  | .k4, .k1 => callIfInstr nn .z
  | .k4, .k2 => callIfInstr nn .nc
  | .k4, .k3 => callIfInstr nn .c
  | .k4, .k4 => .invalid_E4
  | .k4, .k5 => .invalid_EC
  | .k4, .k6 => .invalid_F4
  | .k4, .k7 => .invalid_FC
  | .k5, .k0 => pushInstr .bc
  | .k5, .k1 => .call_nn nn
  | .k5, .k2 => pushInstr .de
  | .k5, .k3 => .invalid_DD
  | .k5, .k4 => pushInstr .hl
  | .k5, .k5 => .invalid_ED
  | .k5, .k6 => pushInstr .af
  | .k5, .k7 => .invalid_FD
  | .k6, y => aluImmInstr n (aluOpOf y)
  | .k7, y => rstInstr y

/-- The base page (R99 to R103): `n` is the byte after the opcode, `nn` the two bytes after it. -/
def decodeBase (op n : Byte) (nn : Word) : Instr :=
  match fieldX op with
  | .k0 => decodeQuadrant0 (fieldY op) (fieldZ op) n nn
  | .k1 => loadInstr (operand8Of (fieldY op)) (operand8Of (fieldZ op))
  | .k2 => aluInstr (aluOpOf (fieldY op)) (operand8Of (fieldZ op))
  | .k3 => decodeQuadrant3 (fieldY op) (fieldZ op) n nn

/-- The extended page (R104). -/
def decodeExt (op2 : Byte) : Instr :=
  match fieldX op2 with
  | .k0 => rotInstr (rotOpOf (fieldY op2)) (operand8Of (fieldZ op2))
  | .k1 => bitInstr (fieldY op2) (operand8Of (fieldZ op2))
  | .k2 => resInstr (fieldY op2) (operand8Of (fieldZ op2))
  | .k3 => setInstr (fieldY op2) (operand8Of (fieldZ op2))

/-- The extended-instruction marker (R92). -/
def prefixByte : Byte := 0xCB

/-- R92: the instruction that the bytes at PC, PC + 1 and PC + 2 hold. Total: every byte sequence decodes (R103). -/
def decode (b0 b1 b2 : Byte) : Instr :=
  if b0 = prefixByte then decodeExt b1 else decodeBase b0 b1 (cat16 b2 b1)

/-! ### The encoder -/

/-- The bytes of an instruction in ascending address order (R90, R99 to R104). -/
def encode : Instr → List Byte
  | .nop => [0x00]
  | .ld_BC_nn nn => [0x01, lo8 nn, hi8 nn]
  | .ld_atBC_A => [0x02]
  | .inc_BC => [0x03]
  | .inc_B => [0x04]
  | .dec_B => [0x05]
  | .ld_B_n n => [0x06, n]
  | .rlca => [0x07]
  | .ld_atnn_SP nn => [0x08, lo8 nn, hi8 nn]
  | .add_HL_BC => [0x09]
  | .ld_A_atBC => [0x0A]
  | .dec_BC => [0x0B]
  | .inc_C => [0x0C]
  | .dec_C => [0x0D]
  | .ld_C_n n => [0x0E, n]
  | .rrca => [0x0F]
  | .stop pad => [0x10, pad]
  | .ld_DE_nn nn => [0x11, lo8 nn, hi8 nn]
  | .ld_atDE_A => [0x12]
  | .inc_DE => [0x13]
  | .inc_D => [0x14]
  | .dec_D => [0x15]
  | .ld_D_n n => [0x16, n]
  | .rla => [0x17]
  | .jr_e e => [0x18, e]
  | .add_HL_DE => [0x19]
  | .ld_A_atDE => [0x1A]
  | .dec_DE => [0x1B]
  | .inc_E => [0x1C]
  | .dec_E => [0x1D]
  | .ld_E_n n => [0x1E, n]
  | .rra => [0x1F]
  | .jr_NZ_e e => [0x20, e]
  | .ld_HL_nn nn => [0x21, lo8 nn, hi8 nn]
  | .ld_atHLinc_A => [0x22]
  | .inc_HL => [0x23]
  | .inc_H => [0x24]
  | .dec_H => [0x25]
  | .ld_H_n n => [0x26, n]
  | .daa => [0x27]
  | .jr_Z_e e => [0x28, e]
  | .add_HL_HL => [0x29]
  | .ld_A_atHLinc => [0x2A]
  | .dec_HL => [0x2B]
  | .inc_L => [0x2C]
  | .dec_L => [0x2D]
  | .ld_L_n n => [0x2E, n]
  | .cpl => [0x2F]
  | .jr_NC_e e => [0x30, e]
  | .ld_SP_nn nn => [0x31, lo8 nn, hi8 nn]
  | .ld_atHLdec_A => [0x32]
  | .inc_SP => [0x33]
  | .inc_atHL => [0x34]
  | .dec_atHL => [0x35]
  | .ld_atHL_n n => [0x36, n]
  | .scf => [0x37]
  | .jr_C_e e => [0x38, e]
  | .add_HL_SP => [0x39]
  | .ld_A_atHLdec => [0x3A]
  | .dec_SP => [0x3B]
  | .inc_A => [0x3C]
  | .dec_A => [0x3D]
  | .ld_A_n n => [0x3E, n]
  | .ccf => [0x3F]
  | .ld_B_B => [0x40]
  | .ld_B_C => [0x41]
  | .ld_B_D => [0x42]
  | .ld_B_E => [0x43]
  | .ld_B_H => [0x44]
  | .ld_B_L => [0x45]
  | .ld_B_atHL => [0x46]
  | .ld_B_A => [0x47]
  | .ld_C_B => [0x48]
  | .ld_C_C => [0x49]
  | .ld_C_D => [0x4A]
  | .ld_C_E => [0x4B]
  | .ld_C_H => [0x4C]
  | .ld_C_L => [0x4D]
  | .ld_C_atHL => [0x4E]
  | .ld_C_A => [0x4F]
  | .ld_D_B => [0x50]
  | .ld_D_C => [0x51]
  | .ld_D_D => [0x52]
  | .ld_D_E => [0x53]
  | .ld_D_H => [0x54]
  | .ld_D_L => [0x55]
  | .ld_D_atHL => [0x56]
  | .ld_D_A => [0x57]
  | .ld_E_B => [0x58]
  | .ld_E_C => [0x59]
  | .ld_E_D => [0x5A]
  | .ld_E_E => [0x5B]
  | .ld_E_H => [0x5C]
  | .ld_E_L => [0x5D]
  | .ld_E_atHL => [0x5E]
  | .ld_E_A => [0x5F]
  | .ld_H_B => [0x60]
  | .ld_H_C => [0x61]
  | .ld_H_D => [0x62]
  | .ld_H_E => [0x63]
  | .ld_H_H => [0x64]
  | .ld_H_L => [0x65]
  | .ld_H_atHL => [0x66]
  | .ld_H_A => [0x67]
  | .ld_L_B => [0x68]
  | .ld_L_C => [0x69]
  | .ld_L_D => [0x6A]
  | .ld_L_E => [0x6B]
  | .ld_L_H => [0x6C]
  | .ld_L_L => [0x6D]
  | .ld_L_atHL => [0x6E]
  | .ld_L_A => [0x6F]
  | .ld_atHL_B => [0x70]
  | .ld_atHL_C => [0x71]
  | .ld_atHL_D => [0x72]
  | .ld_atHL_E => [0x73]
  | .ld_atHL_H => [0x74]
  | .ld_atHL_L => [0x75]
  | .halt => [0x76]
  | .ld_atHL_A => [0x77]
  | .ld_A_B => [0x78]
  | .ld_A_C => [0x79]
  | .ld_A_D => [0x7A]
  | .ld_A_E => [0x7B]
  | .ld_A_H => [0x7C]
  | .ld_A_L => [0x7D]
  | .ld_A_atHL => [0x7E]
  | .ld_A_A => [0x7F]
  | .add_A_B => [0x80]
  | .add_A_C => [0x81]
  | .add_A_D => [0x82]
  | .add_A_E => [0x83]
  | .add_A_H => [0x84]
  | .add_A_L => [0x85]
  | .add_A_atHL => [0x86]
  | .add_A_A => [0x87]
  | .adc_A_B => [0x88]
  | .adc_A_C => [0x89]
  | .adc_A_D => [0x8A]
  | .adc_A_E => [0x8B]
  | .adc_A_H => [0x8C]
  | .adc_A_L => [0x8D]
  | .adc_A_atHL => [0x8E]
  | .adc_A_A => [0x8F]
  | .sub_B => [0x90]
  | .sub_C => [0x91]
  | .sub_D => [0x92]
  | .sub_E => [0x93]
  | .sub_H => [0x94]
  | .sub_L => [0x95]
  | .sub_atHL => [0x96]
  | .sub_A => [0x97]
  | .sbc_A_B => [0x98]
  | .sbc_A_C => [0x99]
  | .sbc_A_D => [0x9A]
  | .sbc_A_E => [0x9B]
  | .sbc_A_H => [0x9C]
  | .sbc_A_L => [0x9D]
  | .sbc_A_atHL => [0x9E]
  | .sbc_A_A => [0x9F]
  | .and_B => [0xA0]
  | .and_C => [0xA1]
  | .and_D => [0xA2]
  | .and_E => [0xA3]
  | .and_H => [0xA4]
  | .and_L => [0xA5]
  | .and_atHL => [0xA6]
  | .and_A => [0xA7]
  | .xor_B => [0xA8]
  | .xor_C => [0xA9]
  | .xor_D => [0xAA]
  | .xor_E => [0xAB]
  | .xor_H => [0xAC]
  | .xor_L => [0xAD]
  | .xor_atHL => [0xAE]
  | .xor_A => [0xAF]
  | .or_B => [0xB0]
  | .or_C => [0xB1]
  | .or_D => [0xB2]
  | .or_E => [0xB3]
  | .or_H => [0xB4]
  | .or_L => [0xB5]
  | .or_atHL => [0xB6]
  | .or_A => [0xB7]
  | .cp_B => [0xB8]
  | .cp_C => [0xB9]
  | .cp_D => [0xBA]
  | .cp_E => [0xBB]
  | .cp_H => [0xBC]
  | .cp_L => [0xBD]
  | .cp_atHL => [0xBE]
  | .cp_A => [0xBF]
  | .ret_NZ => [0xC0]
  | .pop_BC => [0xC1]
  | .jp_NZ_nn nn => [0xC2, lo8 nn, hi8 nn]
  | .jp_nn nn => [0xC3, lo8 nn, hi8 nn]
  | .call_NZ_nn nn => [0xC4, lo8 nn, hi8 nn]
  | .push_BC => [0xC5]
  | .add_A_n n => [0xC6, n]
  | .rst_00 => [0xC7]
  | .ret_Z => [0xC8]
  | .ret => [0xC9]
  | .jp_Z_nn nn => [0xCA, lo8 nn, hi8 nn]
  | .prefix_CB op2 => [0xCB, op2]
  | .call_Z_nn nn => [0xCC, lo8 nn, hi8 nn]
  | .call_nn nn => [0xCD, lo8 nn, hi8 nn]
  | .adc_A_n n => [0xCE, n]
  | .rst_08 => [0xCF]
  | .ret_NC => [0xD0]
  | .pop_DE => [0xD1]
  | .jp_NC_nn nn => [0xD2, lo8 nn, hi8 nn]
  | .invalid_D3 => [0xD3]
  | .call_NC_nn nn => [0xD4, lo8 nn, hi8 nn]
  | .push_DE => [0xD5]
  | .sub_n n => [0xD6, n]
  | .rst_10 => [0xD7]
  | .ret_C => [0xD8]
  | .reti => [0xD9]
  | .jp_C_nn nn => [0xDA, lo8 nn, hi8 nn]
  | .invalid_DB => [0xDB]
  | .call_C_nn nn => [0xDC, lo8 nn, hi8 nn]
  | .invalid_DD => [0xDD]
  | .sbc_A_n n => [0xDE, n]
  | .rst_18 => [0xDF]
  | .ldh_atn_A n => [0xE0, n]
  | .pop_HL => [0xE1]
  | .ld_atC_A => [0xE2]
  | .invalid_E3 => [0xE3]
  | .invalid_E4 => [0xE4]
  | .push_HL => [0xE5]
  | .and_n n => [0xE6, n]
  | .rst_20 => [0xE7]
  | .add_SP_e e => [0xE8, e]
  | .jp_HL => [0xE9]
  | .ld_atnn_A nn => [0xEA, lo8 nn, hi8 nn]
  | .invalid_EB => [0xEB]
  | .invalid_EC => [0xEC]
  | .invalid_ED => [0xED]
  | .xor_n n => [0xEE, n]
  | .rst_28 => [0xEF]
  | .ldh_A_atn n => [0xF0, n]
  | .pop_AF => [0xF1]
  | .ld_A_atC => [0xF2]
  | .di => [0xF3]
  | .invalid_F4 => [0xF4]
  | .push_AF => [0xF5]
  | .or_n n => [0xF6, n]
  | .rst_30 => [0xF7]
  | .ld_HL_SPe e => [0xF8, e]
  | .ld_SP_HL => [0xF9]
  | .ld_A_atnn nn => [0xFA, lo8 nn, hi8 nn]
  | .ei => [0xFB]
  | .invalid_FC => [0xFC]
  | .invalid_FD => [0xFD]
  | .cp_n n => [0xFE, n]
  | .rst_38 => [0xFF]
  | .rlc_B => [0xCB, 0x00]
  | .rlc_C => [0xCB, 0x01]
  | .rlc_D => [0xCB, 0x02]
  | .rlc_E => [0xCB, 0x03]
  | .rlc_H => [0xCB, 0x04]
  | .rlc_L => [0xCB, 0x05]
  | .rlc_atHL => [0xCB, 0x06]
  | .rlc_A => [0xCB, 0x07]
  | .rrc_B => [0xCB, 0x08]
  | .rrc_C => [0xCB, 0x09]
  | .rrc_D => [0xCB, 0x0A]
  | .rrc_E => [0xCB, 0x0B]
  | .rrc_H => [0xCB, 0x0C]
  | .rrc_L => [0xCB, 0x0D]
  | .rrc_atHL => [0xCB, 0x0E]
  | .rrc_A => [0xCB, 0x0F]
  | .rl_B => [0xCB, 0x10]
  | .rl_C => [0xCB, 0x11]
  | .rl_D => [0xCB, 0x12]
  | .rl_E => [0xCB, 0x13]
  | .rl_H => [0xCB, 0x14]
  | .rl_L => [0xCB, 0x15]
  | .rl_atHL => [0xCB, 0x16]
  | .rl_A => [0xCB, 0x17]
  | .rr_B => [0xCB, 0x18]
  | .rr_C => [0xCB, 0x19]
  | .rr_D => [0xCB, 0x1A]
  | .rr_E => [0xCB, 0x1B]
  | .rr_H => [0xCB, 0x1C]
  | .rr_L => [0xCB, 0x1D]
  | .rr_atHL => [0xCB, 0x1E]
  | .rr_A => [0xCB, 0x1F]
  | .sla_B => [0xCB, 0x20]
  | .sla_C => [0xCB, 0x21]
  | .sla_D => [0xCB, 0x22]
  | .sla_E => [0xCB, 0x23]
  | .sla_H => [0xCB, 0x24]
  | .sla_L => [0xCB, 0x25]
  | .sla_atHL => [0xCB, 0x26]
  | .sla_A => [0xCB, 0x27]
  | .sra_B => [0xCB, 0x28]
  | .sra_C => [0xCB, 0x29]
  | .sra_D => [0xCB, 0x2A]
  | .sra_E => [0xCB, 0x2B]
  | .sra_H => [0xCB, 0x2C]
  | .sra_L => [0xCB, 0x2D]
  | .sra_atHL => [0xCB, 0x2E]
  | .sra_A => [0xCB, 0x2F]
  | .swap_B => [0xCB, 0x30]
  | .swap_C => [0xCB, 0x31]
  | .swap_D => [0xCB, 0x32]
  | .swap_E => [0xCB, 0x33]
  | .swap_H => [0xCB, 0x34]
  | .swap_L => [0xCB, 0x35]
  | .swap_atHL => [0xCB, 0x36]
  | .swap_A => [0xCB, 0x37]
  | .srl_B => [0xCB, 0x38]
  | .srl_C => [0xCB, 0x39]
  | .srl_D => [0xCB, 0x3A]
  | .srl_E => [0xCB, 0x3B]
  | .srl_H => [0xCB, 0x3C]
  | .srl_L => [0xCB, 0x3D]
  | .srl_atHL => [0xCB, 0x3E]
  | .srl_A => [0xCB, 0x3F]
  | .bit_0_B => [0xCB, 0x40]
  | .bit_0_C => [0xCB, 0x41]
  | .bit_0_D => [0xCB, 0x42]
  | .bit_0_E => [0xCB, 0x43]
  | .bit_0_H => [0xCB, 0x44]
  | .bit_0_L => [0xCB, 0x45]
  | .bit_0_atHL => [0xCB, 0x46]
  | .bit_0_A => [0xCB, 0x47]
  | .bit_1_B => [0xCB, 0x48]
  | .bit_1_C => [0xCB, 0x49]
  | .bit_1_D => [0xCB, 0x4A]
  | .bit_1_E => [0xCB, 0x4B]
  | .bit_1_H => [0xCB, 0x4C]
  | .bit_1_L => [0xCB, 0x4D]
  | .bit_1_atHL => [0xCB, 0x4E]
  | .bit_1_A => [0xCB, 0x4F]
  | .bit_2_B => [0xCB, 0x50]
  | .bit_2_C => [0xCB, 0x51]
  | .bit_2_D => [0xCB, 0x52]
  | .bit_2_E => [0xCB, 0x53]
  | .bit_2_H => [0xCB, 0x54]
  | .bit_2_L => [0xCB, 0x55]
  | .bit_2_atHL => [0xCB, 0x56]
  | .bit_2_A => [0xCB, 0x57]
  | .bit_3_B => [0xCB, 0x58]
  | .bit_3_C => [0xCB, 0x59]
  | .bit_3_D => [0xCB, 0x5A]
  | .bit_3_E => [0xCB, 0x5B]
  | .bit_3_H => [0xCB, 0x5C]
  | .bit_3_L => [0xCB, 0x5D]
  | .bit_3_atHL => [0xCB, 0x5E]
  | .bit_3_A => [0xCB, 0x5F]
  | .bit_4_B => [0xCB, 0x60]
  | .bit_4_C => [0xCB, 0x61]
  | .bit_4_D => [0xCB, 0x62]
  | .bit_4_E => [0xCB, 0x63]
  | .bit_4_H => [0xCB, 0x64]
  | .bit_4_L => [0xCB, 0x65]
  | .bit_4_atHL => [0xCB, 0x66]
  | .bit_4_A => [0xCB, 0x67]
  | .bit_5_B => [0xCB, 0x68]
  | .bit_5_C => [0xCB, 0x69]
  | .bit_5_D => [0xCB, 0x6A]
  | .bit_5_E => [0xCB, 0x6B]
  | .bit_5_H => [0xCB, 0x6C]
  | .bit_5_L => [0xCB, 0x6D]
  | .bit_5_atHL => [0xCB, 0x6E]
  | .bit_5_A => [0xCB, 0x6F]
  | .bit_6_B => [0xCB, 0x70]
  | .bit_6_C => [0xCB, 0x71]
  | .bit_6_D => [0xCB, 0x72]
  | .bit_6_E => [0xCB, 0x73]
  | .bit_6_H => [0xCB, 0x74]
  | .bit_6_L => [0xCB, 0x75]
  | .bit_6_atHL => [0xCB, 0x76]
  | .bit_6_A => [0xCB, 0x77]
  | .bit_7_B => [0xCB, 0x78]
  | .bit_7_C => [0xCB, 0x79]
  | .bit_7_D => [0xCB, 0x7A]
  | .bit_7_E => [0xCB, 0x7B]
  | .bit_7_H => [0xCB, 0x7C]
  | .bit_7_L => [0xCB, 0x7D]
  | .bit_7_atHL => [0xCB, 0x7E]
  | .bit_7_A => [0xCB, 0x7F]
  | .res_0_B => [0xCB, 0x80]
  | .res_0_C => [0xCB, 0x81]
  | .res_0_D => [0xCB, 0x82]
  | .res_0_E => [0xCB, 0x83]
  | .res_0_H => [0xCB, 0x84]
  | .res_0_L => [0xCB, 0x85]
  | .res_0_atHL => [0xCB, 0x86]
  | .res_0_A => [0xCB, 0x87]
  | .res_1_B => [0xCB, 0x88]
  | .res_1_C => [0xCB, 0x89]
  | .res_1_D => [0xCB, 0x8A]
  | .res_1_E => [0xCB, 0x8B]
  | .res_1_H => [0xCB, 0x8C]
  | .res_1_L => [0xCB, 0x8D]
  | .res_1_atHL => [0xCB, 0x8E]
  | .res_1_A => [0xCB, 0x8F]
  | .res_2_B => [0xCB, 0x90]
  | .res_2_C => [0xCB, 0x91]
  | .res_2_D => [0xCB, 0x92]
  | .res_2_E => [0xCB, 0x93]
  | .res_2_H => [0xCB, 0x94]
  | .res_2_L => [0xCB, 0x95]
  | .res_2_atHL => [0xCB, 0x96]
  | .res_2_A => [0xCB, 0x97]
  | .res_3_B => [0xCB, 0x98]
  | .res_3_C => [0xCB, 0x99]
  | .res_3_D => [0xCB, 0x9A]
  | .res_3_E => [0xCB, 0x9B]
  | .res_3_H => [0xCB, 0x9C]
  | .res_3_L => [0xCB, 0x9D]
  | .res_3_atHL => [0xCB, 0x9E]
  | .res_3_A => [0xCB, 0x9F]
  | .res_4_B => [0xCB, 0xA0]
  | .res_4_C => [0xCB, 0xA1]
  | .res_4_D => [0xCB, 0xA2]
  | .res_4_E => [0xCB, 0xA3]
  | .res_4_H => [0xCB, 0xA4]
  | .res_4_L => [0xCB, 0xA5]
  | .res_4_atHL => [0xCB, 0xA6]
  | .res_4_A => [0xCB, 0xA7]
  | .res_5_B => [0xCB, 0xA8]
  | .res_5_C => [0xCB, 0xA9]
  | .res_5_D => [0xCB, 0xAA]
  | .res_5_E => [0xCB, 0xAB]
  | .res_5_H => [0xCB, 0xAC]
  | .res_5_L => [0xCB, 0xAD]
  | .res_5_atHL => [0xCB, 0xAE]
  | .res_5_A => [0xCB, 0xAF]
  | .res_6_B => [0xCB, 0xB0]
  | .res_6_C => [0xCB, 0xB1]
  | .res_6_D => [0xCB, 0xB2]
  | .res_6_E => [0xCB, 0xB3]
  | .res_6_H => [0xCB, 0xB4]
  | .res_6_L => [0xCB, 0xB5]
  | .res_6_atHL => [0xCB, 0xB6]
  | .res_6_A => [0xCB, 0xB7]
  | .res_7_B => [0xCB, 0xB8]
  | .res_7_C => [0xCB, 0xB9]
  | .res_7_D => [0xCB, 0xBA]
  | .res_7_E => [0xCB, 0xBB]
  | .res_7_H => [0xCB, 0xBC]
  | .res_7_L => [0xCB, 0xBD]
  | .res_7_atHL => [0xCB, 0xBE]
  | .res_7_A => [0xCB, 0xBF]
  | .set_0_B => [0xCB, 0xC0]
  | .set_0_C => [0xCB, 0xC1]
  | .set_0_D => [0xCB, 0xC2]
  | .set_0_E => [0xCB, 0xC3]
  | .set_0_H => [0xCB, 0xC4]
  | .set_0_L => [0xCB, 0xC5]
  | .set_0_atHL => [0xCB, 0xC6]
  | .set_0_A => [0xCB, 0xC7]
  | .set_1_B => [0xCB, 0xC8]
  | .set_1_C => [0xCB, 0xC9]
  | .set_1_D => [0xCB, 0xCA]
  | .set_1_E => [0xCB, 0xCB]
  | .set_1_H => [0xCB, 0xCC]
  | .set_1_L => [0xCB, 0xCD]
  | .set_1_atHL => [0xCB, 0xCE]
  | .set_1_A => [0xCB, 0xCF]
  | .set_2_B => [0xCB, 0xD0]
  | .set_2_C => [0xCB, 0xD1]
  | .set_2_D => [0xCB, 0xD2]
  | .set_2_E => [0xCB, 0xD3]
  | .set_2_H => [0xCB, 0xD4]
  | .set_2_L => [0xCB, 0xD5]
  | .set_2_atHL => [0xCB, 0xD6]
  | .set_2_A => [0xCB, 0xD7]
  | .set_3_B => [0xCB, 0xD8]
  | .set_3_C => [0xCB, 0xD9]
  | .set_3_D => [0xCB, 0xDA]
  | .set_3_E => [0xCB, 0xDB]
  | .set_3_H => [0xCB, 0xDC]
  | .set_3_L => [0xCB, 0xDD]
  | .set_3_atHL => [0xCB, 0xDE]
  | .set_3_A => [0xCB, 0xDF]
  | .set_4_B => [0xCB, 0xE0]
  | .set_4_C => [0xCB, 0xE1]
  | .set_4_D => [0xCB, 0xE2]
  | .set_4_E => [0xCB, 0xE3]
  | .set_4_H => [0xCB, 0xE4]
  | .set_4_L => [0xCB, 0xE5]
  | .set_4_atHL => [0xCB, 0xE6]
  | .set_4_A => [0xCB, 0xE7]
  | .set_5_B => [0xCB, 0xE8]
  | .set_5_C => [0xCB, 0xE9]
  | .set_5_D => [0xCB, 0xEA]
  | .set_5_E => [0xCB, 0xEB]
  | .set_5_H => [0xCB, 0xEC]
  | .set_5_L => [0xCB, 0xED]
  | .set_5_atHL => [0xCB, 0xEE]
  | .set_5_A => [0xCB, 0xEF]
  | .set_6_B => [0xCB, 0xF0]
  | .set_6_C => [0xCB, 0xF1]
  | .set_6_D => [0xCB, 0xF2]
  | .set_6_E => [0xCB, 0xF3]
  | .set_6_H => [0xCB, 0xF4]
  | .set_6_L => [0xCB, 0xF5]
  | .set_6_atHL => [0xCB, 0xF6]
  | .set_6_A => [0xCB, 0xF7]
  | .set_7_B => [0xCB, 0xF8]
  | .set_7_C => [0xCB, 0xF9]
  | .set_7_D => [0xCB, 0xFA]
  | .set_7_E => [0xCB, 0xFB]
  | .set_7_H => [0xCB, 0xFC]
  | .set_7_L => [0xCB, 0xFD]
  | .set_7_atHL => [0xCB, 0xFE]
  | .set_7_A => [0xCB, 0xFF]

/-- The byte length of an instruction (R90). -/
def instrLength (i : Instr) : Nat := (encode i).length

/-- The opcode of an instruction as the pair (page, byte) of R93. -/
def opcodeOf (i : Instr) : Opcode :=
  match encode i with
  | [] => .base 0
  | [b0] => .base b0
  | b0 :: b1 :: _ => if b0 = prefixByte then .ext b1 else .base b0

/-! ### Decoding a list of bytes -/

/-- Why a list of bytes holds no instruction. The core's own fetch never meets it (R103): it wraps around the address space. -/
inductive DecodeError where
  /-- The list ends before the instruction does: `need` bytes, `got` there. -/
  | truncated (need got : Nat)
  deriving DecidableEq, Repr

/-- The instruction at the head of a list of bytes and the bytes after it. -/
def decodeBytes (bs : List Byte) : Except DecodeError (Instr × List Byte) :=
  let i := decode (bs.getD 0 0) (bs.getD 1 0) (bs.getD 2 0)
  if instrLength i ≤ bs.length then .ok (i, bs.drop (instrLength i)) else .error (.truncated (instrLength i) bs.length)

/-! ### The host's question about a row of the opcode table -/

/-- The three bytes, in address order, of an instruction word numbered as spec/opcode_table.json numbers it: a base row's byte is
bits 7:0 and further bytes count on from there; an extended row is `0xCB00 | op2` (R112), its first byte the HIGH one. -/
def tableBytes (nbits w : Nat) : List Byte :=
  let byte (k : Nat) : Byte := BitVec.ofNat 8 (if 8 * k < nbits then w / 2 ^ (8 * k) % 256 else 0)
  if nbits = 16 ∧ byte 1 = prefixByte then [byte 1, byte 0, 0] else [byte 0, byte 1, byte 2]

/-- The instruction the decoder reads from a table word; none where there is no word at all or one longer than any instruction. -/
def decodeTableWord (nbits w : Nat) : Option Instr :=
  if nbits = 0 ∨ nbits > 24 then none
  else
    let bs := tableBytes nbits w
    some (decode (bs.getD 0 0) (bs.getD 1 0) (bs.getD 2 0))

end Sys2Proof
end

