-- ==== Sys2Proof/Machine/Display.lean ====
section
/-! DEFINITION. The DisplayTimingStateMachine (60_exceptions.md section 6, rules R296 to R300). Its accesses are raw. -/
namespace Sys2Proof.Machine

/-- R297: `(LY + 1) mod 154`, on the natural number LY + 1 (D24). -/
def nextLine (cfg : Config) (ly : Byte) : Byte := BitVec.ofNat 8 ((ly.toNat + 1) % cfg.lyMod)

/-- The end of a mode (R296): leaving Mode0 advances LY; STAT[1:0] becomes the successor, bits 7:2 kept; the accumulator is
reset to 0, the excess discarded (D23). -/
def displayTransition (cfg : Config) (m : DisplayMode) (s : State) : State :=
  let s1 := match m with
    | .mode0 => s.poke cfg.addrLy (nextLine cfg (s.rd cfg.addrLy))
    | .mode1 | .mode2 | .mode3 => s
  let s2 := s1.poke cfg.addrStat ((s1.rd cfg.addrStat &&& 0xFC) ||| displayModeBits (nextDisplayMode m))
  { s2 with lcdAcc := 0 }

/-- `Display.update(cost)` (R296): at most one transition a call; the accumulator is `ACC_WIDTH` wide (D19). -/
def displayUpdate (cfg : Config) (cost : Nat) (s : State) : State :=
  let s1 := { s with lcdAcc := wrapTo cfg.accWidth (s.lcdAcc + cost) }
  let m := displayModeOf (s1.rd cfg.addrStat)
  if s1.lcdAcc ≥ cfg.lcdDur m then displayTransition cfg m s1 else s1

end Sys2Proof.Machine
end

