-- ==== Sys2Proof/Machine/Interrupt.lean ====
section
/-! DEFINITION. The InterruptController (60_exceptions.md rules R280 to R283); entry itself is `enterInterrupt` of Machine/Ops.lean. -/
namespace Sys2Proof.Machine

/-- A source's request bit and its enable bit are both set (R281). -/
def pendingEnabled (cfg : Config) (s : State) (src : Source) : Bool :=
  (s.rd cfg.addrIf).getLsbD (cfg.irqBit src) && (s.rd cfg.addrIe).getLsbD (cfg.irqBit src)

/-- The first pending and enabled source in the fixed priority order (R281). -/
def selectSource (cfg : Config) (s : State) : Option Source := sourcesByPriority.find? (pendingEnabled cfg s)

/-- `InterruptController.evaluate()` (R281, R282): with the gate on, the selected source is entered; else nothing happens. -/
def interruptEvaluate (cfg : Config) (s : State) : State :=
  if s.ime then
    match selectSource cfg s with
    | none => s
    | some src => enterInterrupt cfg src s
  else s

end Sys2Proof.Machine
end

