-- ==== Sys2Proof/Machine/Timer.lean ====
section
/-! DEFINITION. The Timer (60_exceptions.md section 5, rules R289 to R295). All its accesses are raw (20_memory.md rule R65). -/
namespace Sys2Proof.Machine

/-- The divider (R290): its 8-bit accumulator takes the cost; on wraparound DIV advances by 1, by a raw write. -/
def timerDivider (cfg : Config) (cost : Nat) (s : State) : State :=
  let t := s.divAcc.toNat + cost
  let counted := if t > 255 then s.poke cfg.addrDiv (s.rd cfg.addrDiv + 1) else s
  { counted with divAcc := BitVec.ofNat 8 t }

/-- One tick (R293): TIMA advances by 1; where the new value is less than the old, TIMA is reloaded from TMA and the Timer's
request bit is set. -/
def timerTick (cfg : Config) (s : State) : State :=
  let old := s.rd cfg.addrTima
  if old + 1 < old then
    (s.poke cfg.addrIf (setBit8 (s.rd cfg.addrIf) (cfg.irqBit .timer))).poke cfg.addrTima (s.rd cfg.addrTma)
  else s.poke cfg.addrTima (old + 1)

/-- `n` ticks, one after another (R292, D20). -/
def timerTicks (cfg : Config) : Nat → State → State
  | 0, s => s
  | n + 1, s => timerTicks cfg n (timerTick cfg s)

/-- Tick accounting (R292) at threshold `th`: one tick for each whole threshold in the accumulator (`ACC_WIDTH` wide, D19), which
ends below it. -/
def timerCount (cfg : Config) (th cost : Nat) (s : State) : State :=
  let t := wrapTo cfg.accWidth (s.timaAcc + cost)
  timerTicks cfg (t / th) { s with timaAcc := t % th }

/-- `Timer.increase(cost)` (R289 to R292): the divider, then, if TAC enables it, the tick accounting at the rate TAC selects. -/
def timerIncrease (cfg : Config) (cost : Nat) (s : State) : State :=
  let s1 := timerDivider cfg cost s
  let tac := s1.rd cfg.addrTac
  if tac.getLsbD cfg.tacEnableBit then timerCount cfg (cfg.timerCpt (tacRate tac)) cost s1 else s1

end Sys2Proof.Machine
end

