-- ==== Sys2Proof/Machine/Fetch.lean ====
section
/-! DEFINITION. Stage 1 and stages 5 to 7 of the step (60_exceptions.md rule R270), and the placing of an instruction word where
the fetch reads it. -/
namespace Sys2Proof.Machine

/-- Stage 1 (R270, R92): the instruction at PC; the fetch of the second and third bytes wraps (R29, D6). Every address is fetched
from, the device registers too (R60, R80, R272), so an unloaded core meets, when PC comes to that page, the bytes the devices have put there.
DEDUCED (log 25): R255 and R322 say that such a core runs NOPs for ever, which these rules with R290 and R296 bear out up to the divider's
address and no further (`unloaded_core_executes_nops` and `unloaded_core_meets_divider`, Laws/Unloaded.lean). -/
def fetch (s : State) : Instr := decode (s.rd s.pc) (s.rd (s.pc + 1)) (s.rd (s.pc + 2))

/-- Stages 5 to 7 (R270): the Timer and the display advance by the cost, then the interrupt controller is evaluated once. -/
def devicePhase (cfg : Config) (cost : Nat) (s : State) : State :=
  interruptEvaluate cfg (displayUpdate cfg cost (timerIncrease cfg cost s))

/-- The state after a step of `s` whose instruction answered `t`: the devices advance by the cost that the instruction added to the
cycle counter (R213: the same number goes to all three), the counter being kept to `CYCLE_COUNTER_WIDTH` (D18). -/
def finishStep (cfg : Config) (s t : State) : State :=
  devicePhase cfg (t.cycles - s.cycles) { t with cycles := wrapTo cfg.cycleCounterWidth t.cycles }

/-- R270 and R271 over whatever executes an instruction (stages 2 to 4): a core that is not Running does nothing; else the
instruction at PC is fetched and executed, and the step is finished. -/
def stepThrough (cfg : Config) (execute : Instr → State → Result) (s : State) : Result :=
  match s.run with
  | .halted => .next s
  | .stopped => .next s
  | .running =>
    match execute (fetch s) s with
    | .next t => .next (finishStep cfg s t)
    | .fault r => .fault r
    | .refused r => .refused r

/-- Bytes stored raw at an address and the ones after it, wrapping. -/
def pokeBytes (addr : Word) : List Byte → State → State
  | [], s => s
  | v :: vs, s => pokeBytes (addr + 1) vs (s.poke addr v)

/-- The word's three bytes at PC; the run state is Running, which the fetch needs (R270 stage 0). -/
def placeFetchWord (nbits w : Nat) (s : State) : State :=
  { pokeBytes s.pc (tableBytes nbits w) s with run := .running }

end Sys2Proof.Machine
end

