-- ==== Sys2Proof/Machine/Step.lean ====
section
/-! DEFINITION. One step of the core (60_exceptions.md rule R270). -/
namespace Sys2Proof.Machine

/-- R270 and R271 at the default parameters: the instruction fetched at PC is executed by `exec`. The step at any other parameters
is `stepWith` (Machine/Parametric.lean). -/
def step (s : State) : Host.Outcome State Fault Refusal := stepThrough config exec s

/-- The state whose next step fetches and runs the instruction word given (spec/opcode_table.json's numbering). -/
def State.withFetchWord (s : State) (nbits w : Nat) : State := placeFetchWord nbits w s

end Sys2Proof.Machine
end

