-- ==== Sys2Proof/Machine/Interface.lean ====
section
/-! DEFINITION. The operations the outside world has on the core, all between steps (70_reset_and_hazards.md rules R320, R330, R331).
Reading a field of State is the read access of R330, which has no side effect. -/
namespace Sys2Proof.Machine

/-- `execute_next()` (R330): one step, with the instruction just executed; none when the core is not Running. -/
def executeNext (s : State) : Option Instr × Host.Outcome State Fault Refusal :=
  match s.run with
  | .running => (some (fetch s), step s)
  | .halted => (none, step s)
  | .stopped => (none, step s)

/-- `reset()` (R320): its result does not depend on the state before it. -/
def hostReset (_s : State) : State := State.reset

/-- Mutable access to a general register (R330). -/
def hostSetReg (r : Reg8) (v : Byte) (s : State) : State := s.setReg r v

/-- Mutable access to the flags (R330): a value whose low nibble is not zero is refused (93_implementation_defined.md U3). -/
def hostSetFlags (v : Byte) (s : State) : Option State := if v &&& 0x0F = 0 then some { s with f := v } else none

/-- Mutable access to SP (R330). -/
def hostSetSp (v : Word) (s : State) : State := { s with sp := v }

/-- Mutable access to PC (R330). -/
def hostSetPc (v : Word) (s : State) : State := { s with pc := v }

/-- Mutable access to the cycle counter (R330). -/
def hostSetCycles (n : Nat) (s : State) : State := { s with cycles := n }

/-- Mutable access to the run state (R330): how a host resumes a Halted core (R271). -/
def hostSetRun (r : RunState) (s : State) : State := { s with run := r }

/-- `load(addr)` (R330). -/
def hostLoad (addr : Word) (s : State) : Byte := s.rd addr

/-- `store(addr, byte)` (R330): includes the divider rule. -/
def hostStore (cfg : Config) (addr : Word) (v : Byte) (s : State) : State := memWrite cfg addr v s

/-- `is_set` (R330). -/
def hostIsSet (addr : Word) (i : Nat) (s : State) : Bool := (hostLoad addr s).getLsbD i

/-- `set_bit` (R330): a load and a store, so on the divider it stores 0 (D28). -/
def hostSetBit (cfg : Config) (addr : Word) (i : Nat) (s : State) : State :=
  hostStore cfg addr (setBit8 (hostLoad addr s) i) s

/-- `clear_bit` (R330): a load and a store (D28). -/
def hostClearBit (cfg : Config) (addr : Word) (i : Nat) (s : State) : State :=
  hostStore cfg addr (clearBit8 (hostLoad addr s) i) s

/-- `load_rom` (R331): a raw copy of at most 65536 bytes from address 0, with the count copied (D28). -/
def loadRom (image : List Byte) (s : State) : Nat × State :=
  ((image.take 65536).length, pokeBytes 0 (image.take 65536) s)

end Sys2Proof.Machine
end

