-- ==== Sys2Proof/Machine/Parametric.lean ====
section
/-! DEFINITION. The machine at any choice of the parameters of 00_scope.md rule R7. An instruction is run from its bytes, by the
fields of its opcode (30_encoding.md rules R99 to R104), over the same shared operations that the meanings `exec` calls apply at
`config`; at `config` the two agree on every instruction (`execWith_config`, Laws/Parametric.lean). A repair of a shared operation
mends both; one of a single meaning must be made here too. -/
namespace Sys2Proof.Machine

/-- Quadrant 0 by column and row (R99): `op` is the opcode, `n` the byte after it, `nn` the two bytes after it. -/
def runQuadrant0 (cfg : Config) (op : Opcode) (y z : Code3) (n : Byte) (nn : Word) (s : State) : Result :=
  match z, y with
  | .k0, .k0 => noOperation cfg op s
  | .k0, .k1 => storeSp cfg op nn s
  | .k0, .k2 => stopCore cfg op s
  | .k0, .k3 => jumpRel cfg op n s
  | .k0, .k4 => jumpRelIf cfg op .nz n s
  | .k0, .k5 => jumpRelIf cfg op .z n s
  | .k0, .k6 => jumpRelIf cfg op .nc n s
  | .k0, .k7 => jumpRelIf cfg op .c n s
  | .k1, .k0 => loadPairImm cfg op .bc nn s
  | .k1, .k1 => addHlPair cfg op .bc s
  | .k1, .k2 => loadPairImm cfg op .de nn s
  | .k1, .k3 => addHlPair cfg op .de s
  | .k1, .k4 => loadPairImm cfg op .hl nn s
  | .k1, .k5 => addHlPair cfg op .hl s
  | .k1, .k6 => loadPairImm cfg op .sp nn s
  | .k1, .k7 => addHlPair cfg op .sp s
  | .k2, .k0 => storeA cfg op 1 (s.pair .bc) s
  | .k2, .k1 => loadA cfg op 1 (s.pair .bc) s
  | .k2, .k2 => storeA cfg op 1 (s.pair .de) s
  | .k2, .k3 => loadA cfg op 1 (s.pair .de) s
  | .k2, .k4 => storeAStep cfg op 1 s
  | .k2, .k5 => loadAStep cfg op 1 s
  | .k2, .k6 => storeAStep cfg op (-1) s
  | .k2, .k7 => loadAStep cfg op (-1) s
  | .k3, .k0 => incPair cfg op .bc s
  | .k3, .k1 => decPair cfg op .bc s
  | .k3, .k2 => incPair cfg op .de s
  | .k3, .k3 => decPair cfg op .de s
  | .k3, .k4 => incPair cfg op .hl s
  | .k3, .k5 => decPair cfg op .hl s
  | .k3, .k6 => incPair cfg op .sp s
  | .k3, .k7 => decPair cfg op .sp s
  | .k4, y =>
    match operand8Of y with
    | .reg r => stepReg cfg op inc8 r s
    | .atHL => stepHl cfg op inc8 s
  | .k5, y =>
    match operand8Of y with
    | .reg r => stepReg cfg op dec8 r s
    | .atHL => stepHl cfg op dec8 s
  | .k6, y =>
    match operand8Of y with
    | .reg r => loadRegImm cfg op r n s
    | .atHL => storeHlImm cfg op n s
  | .k7, .k0 => rotateA cfg op .rlc s
  | .k7, .k1 => rotateA cfg op .rrc s
  | .k7, .k2 => rotateA cfg op .rl s
  | .k7, .k3 => rotateA cfg op .rr s
  | .k7, .k4 => accumulator cfg op (daa8 s.a s.flagN s.flagH s.flagC) s
  | .k7, .k5 => accumulator cfg op ⟨~~~s.a, packF s.flagZ true true s.flagC⟩ s
  | .k7, .k6 => accumulator cfg op ⟨s.a, packF s.flagZ false false true⟩ s
  | .k7, .k7 => accumulator cfg op ⟨s.a, packF s.flagZ false false (!s.flagC)⟩ s

/-- Quadrant 1 (R100): the loads between 8-bit operands, HALT in the place of `LD (HL),(HL)`. -/
def runLoad (cfg : Config) (op : Opcode) (dst src : Operand8) (s : State) : Result :=
  match dst, src with
  | .reg r, .reg r' => loadRegReg cfg op r r' s
  | .reg r, .atHL => loadRegHl cfg op r s
  | .atHL, .reg r => storeHlReg cfg op r s
  | .atHL, .atHL => haltCore cfg op s

/-- Quadrant 2 (R101): the operations on A. -/
def runAlu (cfg : Config) (op : Opcode) (o : AluOp) (x : Operand8) (s : State) : Result :=
  match x with
  | .reg r => aluReg cfg op o r s
  | .atHL => aluHl cfg op o s

/-- Quadrant 3 by column and row (R102); the marker's entry (column 3, row 1) is R261's. -/
def runQuadrant3 (cfg : Config) (op : Opcode) (y z : Code3) (n : Byte) (nn : Word) (s : State) : Result :=
  match z, y with
  | .k0, .k0 => retIf cfg op .nz s
  | .k0, .k1 => retIf cfg op .z s
  | .k0, .k2 => retIf cfg op .nc s
  | .k0, .k3 => retIf cfg op .c s
  | .k0, .k4 => storeA cfg op 2 (highPageAddr cfg n) s
  | .k0, .k5 => addSpRel cfg op n s
  | .k0, .k6 => loadA cfg op 2 (highPageAddr cfg n) s
  | .k0, .k7 => loadHlSpRel cfg op n s
  | .k1, .k0 => popPair cfg op .bc s
  | .k1, .k1 => ret cfg op s
  | .k1, .k2 => popPair cfg op .de s
  | .k1, .k3 => retFromInterrupt cfg op s
  | .k1, .k4 => popPair cfg op .hl s
  | .k1, .k5 => jump cfg op s.hl s
  | .k1, .k6 => popPair cfg op .af s
  | .k1, .k7 => loadSpHl cfg op s
  | .k2, .k0 => jumpIf cfg op .nz nn s
  | .k2, .k1 => jumpIf cfg op .z nn s
  | .k2, .k2 => jumpIf cfg op .nc nn s
  | .k2, .k3 => jumpIf cfg op .c nn s
  | .k2, .k4 => storeA cfg op 1 (highPageAddr cfg s.c) s
  | .k2, .k5 => storeA cfg op 3 nn s
  | .k2, .k6 => loadA cfg op 1 (highPageAddr cfg s.c) s
  | .k2, .k7 => loadA cfg op 3 nn s
  | .k3, .k0 => jump cfg op nn s
  | .k3, .k1 => extendedOp cfg n s
  | .k3, .k2 => invalidOpcode cfg s
  | .k3, .k3 => invalidOpcode cfg s
  | .k3, .k4 => invalidOpcode cfg s
  | .k3, .k5 => invalidOpcode cfg s
  | .k3, .k6 => setGate cfg op false s
  | .k3, .k7 => setGate cfg op true s
  | .k4, .k0 => callIf cfg op .nz nn s
  | .k4, .k1 => callIf cfg op .z nn s
  | .k4, .k2 => callIf cfg op .nc nn s
  | .k4, .k3 => callIf cfg op .c nn s
  | .k4, .k4 => invalidOpcode cfg s
  | .k4, .k5 => invalidOpcode cfg s
  | .k4, .k6 => invalidOpcode cfg s
  | .k4, .k7 => invalidOpcode cfg s
  | .k5, .k0 => pushPair cfg op .bc s
  | .k5, .k1 => call cfg op nn s
  | .k5, .k2 => pushPair cfg op .de s
  | .k5, .k3 => invalidOpcode cfg s
  | .k5, .k4 => pushPair cfg op .hl s
  | .k5, .k5 => invalidOpcode cfg s
  | .k5, .k6 => pushPair cfg op .af s
  | .k5, .k7 => invalidOpcode cfg s
  | .k6, y => aluImm cfg op (aluOpOf y) n s
  | .k7, y => restart cfg op y s

/-- The base page (R99 to R103). -/
def runBase (cfg : Config) (b n : Byte) (nn : Word) (s : State) : Result :=
  match fieldX b with
  | .k0 => runQuadrant0 cfg (.base b) (fieldY b) (fieldZ b) n nn s
  | .k1 => runLoad cfg (.base b) (operand8Of (fieldY b)) (operand8Of (fieldZ b)) s
  | .k2 => runAlu cfg (.base b) (aluOpOf (fieldY b)) (operand8Of (fieldZ b)) s
  | .k3 => runQuadrant3 cfg (.base b) (fieldY b) (fieldZ b) n nn s

/-- The instruction that three bytes hold (R92), run at the parameters given. -/
def runBytes (cfg : Config) (b0 b1 b2 : Byte) (s : State) : Result :=
  if b0 = prefixByte then extendedOp cfg b1 s else runBase cfg b0 b1 (cat16 b2 b1) s

/-- `exec` at any parameters. -/
def execWith (cfg : Config) (i : Instr) (s : State) : Result :=
  runBytes cfg ((encode i).getD 0 0) ((encode i).getD 1 0) ((encode i).getD 2 0) s

/-- `step` at any parameters (R270, R271). -/
def stepWith (cfg : Config) (s : State) : Result := stepThrough cfg (execWith cfg) s

end Sys2Proof.Machine
end

