-- ==== Sys2Proof/Safety.lean ====
section
/-! DEFINITION. What counts as a safe run, in the terms the claims use: the invariant that every step keeps. -/
namespace Sys2Proof.Machine

/-- The low nibble of F is zero (10_state.md rule R25). -/
def State.flagsClean (s : State) : Prop := s.f &&& 0x0F = 0

/-- The accumulators stay below the largest threshold (R44) and the longest display mode (R296, R298 with decision D23, log 11; the bound
of R45 is looser). -/
def State.accumulatorsBounded (s : State) : Prop := s.timaAcc < 1024 ∧ s.lcdAcc < 4560

/-- The states a run from reset stays in: memory in its canonical form (the model's choice, log 12), F's low nibble zero, the
accumulators bounded. -/
structure State.Inv (s : State) : Prop where
  memoryCanonical : s.mem.wf = true
  flagsClean : s.flagsClean
  accumulatorsBounded : s.accumulatorsBounded

/-- A step that goes on: neither a fault nor a refusal. -/
def StepsOn (s : State) : Prop := ∃ t, step s = .next t

end Sys2Proof.Machine
end

