-- ==== Sys2Proof/Certificates/Slice0/Obligations.lean ====
section
/-! DEFINITION. The statements about the model, for the provers. The first part is their vocabulary; each statement's docstring names
the rules of spec/ it rests on and, where a clause of it is a decision (D) of 92_eei_decisions.md or supplied from general knowledge
(GK), says so and names the log entry. -/

open Sys2Proof Sys2Proof.Machine

namespace Sys2Proof.Claims

/-! ### Vocabulary -/

/-- The operand code `k` of R95. -/
def code8 : Operand8 → Nat
  | .reg .b => 0
  | .reg .c => 1
  | .reg .d => 2
  | .reg .e => 3
  | .reg .h => 4
  | .reg .l => 5
  | .atHL => 6
  | .reg .a => 7

/-- The ALU operation code of R97. -/
def aluCode : AluOp → Nat
  | .add => 0
  | .adc => 1
  | .sub => 2
  | .sbc => 3
  | .and => 4
  | .xor => 5
  | .or => 6
  | .cp => 7

/-- The rotate operation code of R97. -/
def rotCode : RotOp → Nat
  | .rlc => 0
  | .rrc => 1
  | .rl => 2
  | .rr => 3
  | .sla => 4
  | .sra => 5
  | .swap => 6
  | .srl => 7

/-- The pair code of table `rp` (R96). -/
def pairCode : Pair → Nat
  | .bc => 0
  | .de => 1
  | .hl => 2
  | .sp => 3

/-- The pair code of table `rp2` (R96). -/
def stackPairCode : StackPair → Nat
  | .bc => 0
  | .de => 1
  | .hl => 2
  | .af => 3

/-- The condition code of R97. -/
def condCode : Cond → Nat
  | .nz => 0
  | .z => 1
  | .nc => 2
  | .c => 3

/-- The value an 8-bit operand has: a register, or the byte at HL. -/
def valueOf (x : Operand8) (s : State) : Byte :=
  match x with
  | .reg r => s.reg r
  | .atHL => s.rd s.hl

/-- The instruction has exactly these bytes. -/
def HasBytes (i : Instr) (bs : List Nat) : Prop := encode i = bs.map (BitVec.ofNat 8)

/-- An instruction of `len` bytes and `cost` cycles that does not transfer control. -/
def Retired (len cost : Nat) (s t : State) : Prop :=
  t.pc = s.pc + BitVec.ofNat 16 len ∧ t.cycles = s.cycles + cost

/-- An instruction of `cost` cycles after which PC is `target`. -/
def Went (target : Word) (cost : Nat) (s t : State) : Prop := t.pc = target ∧ t.cycles = s.cycles + cost

/-- F holds exactly these four flags, and its low nibble is zero (R24, R25). -/
def FlagsAre (t : State) (z n h c : Bool) : Prop :=
  t.flagZ = z ∧ t.flagN = n ∧ t.flagH = h ∧ t.flagC = c ∧ t.f &&& 0x0F = 0

/-- Every general register but those listed, the gate, the run state and the three hidden accumulators are unchanged. -/
def Frame (rs : List Reg8) (s t : State) : Prop :=
  (∀ r, r ∉ rs → t.reg r = s.reg r) ∧ t.ime = s.ime ∧ t.run = s.run
    ∧ t.divAcc = s.divAcc ∧ t.timaAcc = s.timaAcc ∧ t.lcdAcc = s.lcdAcc

/-- Every byte of memory reads as before. -/
def MemSame (s t : State) : Prop := ∀ x : Word, t.rd x = s.rd x

/-- One byte was stored at `a` through the engine's store (R63, R64): `v`, or 0 at the divider; every other byte reads as before. -/
def Stored (a : Word) (v : Byte) (s t : State) : Prop :=
  t.rd a = (if a = config.addrDiv then 0 else v) ∧ ∀ x : Word, x ≠ a → t.rd x = s.rd x

/-- A word was pushed (R68): SP is 2 lower, the high byte is at SP - 1, the low byte at SP - 2, a byte on the divider being 0;
every other byte reads as before. -/
def Pushed (v : Word) (s t : State) : Prop :=
  t.sp = s.sp - 2
    ∧ t.rd (s.sp - 1) = (if s.sp - 1 = config.addrDiv then 0 else BitVec.ofNat 8 (v.toNat / 256))
    ∧ t.rd (s.sp - 2) = (if s.sp - 2 = config.addrDiv then 0 else BitVec.ofNat 8 (v.toNat % 256))
    ∧ ∀ x : Word, x ≠ s.sp - 1 → x ≠ s.sp - 2 → t.rd x = s.rd x

/-- The word a pop returns (R69): the low byte at SP, the high byte at SP + 1. -/
def topWord (s : State) : Word := BitVec.ofNat 16 (256 * (s.rd (s.sp + 1)).toNat + (s.rd s.sp).toNat)

/-- The word of two bytes, the first the high one (R22). -/
def word (hi lo : Byte) : Word := BitVec.ofNat 16 (256 * hi.toNat + lo.toNat)

/-- The sum of A, `b` and a carry goes to A, with the flags of `add8` (R26, R121, R124); nothing else changes. -/
def SumIntoA (s : State) (b : Byte) (cin : Nat) (t : State) : Prop :=
  t.a.toNat = (s.a.toNat + b.toNat + cin) % 256
    ∧ FlagsAre t (decide (t.a = 0)) false (decide (s.a.toNat % 16 + b.toNat % 16 + cin > 15))
        (decide (s.a.toNat + b.toNat + cin > 255))
    ∧ t.sp = s.sp ∧ MemSame s t ∧ Frame [.a] s t

/-- The flags of the difference of A, `b` and a borrow (R26, R127, R130). -/
def DifferenceFlags (s : State) (b : Byte) (cin : Nat) (t : State) : Prop :=
  FlagsAre t (decide (((s.a.toNat : Int) - b.toNat - cin) % 256 = 0)) true
    (decide (s.a.toNat % 16 < b.toNat % 16 + cin)) (decide (s.a.toNat < b.toNat + cin))

/-- The difference of A, `b` and a borrow goes to A; nothing else changes but F. -/
def DifferenceIntoA (s : State) (b : Byte) (cin : Nat) (t : State) : Prop :=
  (t.a.toNat : Int) = ((s.a.toNat : Int) - b.toNat - cin) % 256
    ∧ DifferenceFlags s b cin t ∧ t.sp = s.sp ∧ MemSame s t ∧ Frame [.a] s t

/-- A comparison (R142): the flags of the difference; no register changes but F. -/
def Compared (s : State) (b : Byte) (t : State) : Prop :=
  DifferenceFlags s b 0 t ∧ t.sp = s.sp ∧ MemSame s t ∧ Frame [] s t

/-- A logical result goes to A with Z from it, N and C clear and H as given (R133, R136, R139). -/
def LogicIntoA (s : State) (r : Byte) (half : Bool) (t : State) : Prop :=
  t.a = r ∧ FlagsAre t (decide (r = 0)) false half false ∧ t.sp = s.sp ∧ MemSame s t ∧ Frame [.a] s t

/-- The ten forms of one two-operand operation (R120): with a register or the byte at HL, and with an immediate byte; `P b t` says
what the operation leaves for second operand `b`. -/
def AluForms (o : AluOp) (s : State) (n : Byte) (P : Byte → State → Prop) : Prop :=
  (∀ x : Operand8,
    HasBytes (aluInstr o x) [0x80 + 8 * aluCode o + code8 x]
      ∧ ∃ t, exec (aluInstr o x) s = .next t ∧ P (valueOf x s) t ∧ Retired 1 (if x = .atHL then 8 else 4) s t)
    ∧ HasBytes (aluImmInstr n o) [0xC6 + 8 * aluCode o, n.toNat]
    ∧ ∃ t, exec (aluImmInstr n o) s = .next t ∧ P n t ∧ Retired 2 8 s t

/-- The value of a rotate or shift as a number (R175 to R190): `v` the byte, `c` the old carry. -/
def rotNumber (o : RotOp) (v c : Nat) : Nat :=
  match o with
  | .rlc => (2 * v + v / 128) % 256
  | .rrc => v / 2 + 128 * (v % 2)
  | .rl => (2 * v + c) % 256
  | .rr => v / 2 + 128 * c
  | .sla => 2 * v % 256
  | .sra => v / 2 + 128 * (v / 128)
  | .swap => 16 * (v % 16) + v / 16
  | .srl => v / 2

/-- The carry a rotate or shift leaves (R175 to R190): bit 7 for the left moves, bit 0 for the right moves, 0 for SWAP. -/
def rotOut (o : RotOp) (v : Nat) : Bool :=
  match o with
  | .rlc | .rl | .sla => decide (v ≥ 128)
  | .rrc | .rr | .sra | .srl => decide (v % 2 = 1)
  | .swap => false

/-- A conditional form whose condition is false; every other instruction counts as taken (R270 stage 2). -/
def taken (i : Instr) (s : State) : Bool :=
  match i with
  | .jr_NZ_e _ | .jp_NZ_nn _ | .call_NZ_nn _ | .ret_NZ => !s.flagZ
  | .jr_Z_e _ | .jp_Z_nn _ | .call_Z_nn _ | .ret_Z => s.flagZ
  | .jr_NC_e _ | .jp_NC_nn _ | .call_NC_nn _ | .ret_NC => !s.flagC
  | .jr_C_e _ | .jp_C_nn _ | .call_C_nn _ | .ret_C => s.flagC
  | _ => true

/-- What R27 says of one flag: unchanged, computed, or forced. -/
inductive FlagRule where
  | kept
  | computed
  | forced (v : Bool)
  deriving DecidableEq, Repr

/-- A flag obeys its rule. -/
def FlagRule.Obeyed (r : FlagRule) (before after : Bool) : Prop :=
  match r with
  | .kept => after = before
  | .computed => True
  | .forced v => after = v

/-- A row of R27. -/
structure FlagRow where
  z : FlagRule
  n : FlagRule
  h : FlagRule
  c : FlagRule
  deriving DecidableEq, Repr

/-- The row of an instruction that writes no flag. -/
def noFlags : FlagRow := ⟨.kept, .kept, .kept, .kept⟩

/-- The table of R27, base page, by opcode byte. -/
def baseFlagRow (op : Nat) : FlagRow :=
  if (0x80 ≤ op ∧ op < 0x90) ∨ op = 0xC6 ∨ op = 0xCE then ⟨.computed, .forced false, .computed, .computed⟩
  else if (0x90 ≤ op ∧ op < 0xA0) ∨ (0xB8 ≤ op ∧ op < 0xC0) ∨ op = 0xD6 ∨ op = 0xDE ∨ op = 0xFE then
    ⟨.computed, .forced true, .computed, .computed⟩
  else if (0xA0 ≤ op ∧ op < 0xA8) ∨ op = 0xE6 then ⟨.computed, .forced false, .forced true, .forced false⟩
  else if (0xA8 ≤ op ∧ op < 0xB8) ∨ op = 0xEE ∨ op = 0xF6 then ⟨.computed, .forced false, .forced false, .forced false⟩
  else if op < 0x40 ∧ op % 8 = 4 then ⟨.computed, .forced false, .computed, .kept⟩
  else if op < 0x40 ∧ op % 8 = 5 then ⟨.computed, .forced true, .computed, .kept⟩
  else if op < 0x40 ∧ op % 16 = 9 then ⟨.kept, .forced false, .computed, .computed⟩
  else if op = 0xE8 ∨ op = 0xF8 then ⟨.forced false, .forced false, .computed, .computed⟩
  else if op = 0x27 then ⟨.computed, .kept, .forced false, .computed⟩
  else if op = 0x2F then ⟨.kept, .forced true, .forced true, .kept⟩
  else if op = 0x37 then ⟨.kept, .forced false, .forced false, .forced true⟩
  else if op = 0x3F then ⟨.kept, .forced false, .forced false, .computed⟩
  else if op = 0x07 ∨ op = 0x0F ∨ op = 0x17 ∨ op = 0x1F then ⟨.forced false, .forced false, .forced false, .computed⟩
  else if op = 0xF1 then ⟨.computed, .computed, .computed, .computed⟩
  else noFlags

/-- The table of R27, extended page, by second byte. -/
def extFlagRow (op2 : Nat) : FlagRow :=
  if 0x30 ≤ op2 ∧ op2 < 0x38 then ⟨.computed, .forced false, .forced false, .forced false⟩
  else if op2 < 0x40 then ⟨.computed, .forced false, .forced false, .computed⟩
  else if op2 < 0x80 then ⟨.computed, .forced false, .forced true, .kept⟩
  else noFlags

/-- The table of R27. -/
def flagRow : Opcode → FlagRow
  | .base b => baseFlagRow b.toNat
  | .ext b => extFlagRow b.toNat

/-- The addresses an instruction stores to, in the order performed (the table of R71), from the state it starts in. -/
def storesTo (i : Instr) (s : State) : List Word :=
  match i with
  | .ld_atnn_A nn => [nn]
  | .ld_atnn_SP nn => [nn, nn + 1]
  | .ldh_atn_A n => [highPageAddr config n]
  | .ld_atC_A => [highPageAddr config s.c]
  | .ld_atBC_A => [s.pair .bc]
  | .ld_atDE_A => [s.pair .de]
  | .ld_atHLinc_A | .ld_atHLdec_A | .ld_atHL_n _ | .inc_atHL | .dec_atHL => [s.hl]
  | .ld_atHL_B | .ld_atHL_C | .ld_atHL_D | .ld_atHL_E | .ld_atHL_H | .ld_atHL_L | .ld_atHL_A => [s.hl]
  | .push_BC | .push_DE | .push_HL | .push_AF => [s.sp - 1, s.sp - 2]
  | .call_nn _ => [s.sp - 1, s.sp - 2]
  | .rst_00 | .rst_08 | .rst_10 | .rst_18 | .rst_20 | .rst_28 | .rst_30 | .rst_38 => [s.sp - 1, s.sp - 2]
  | .call_NZ_nn _ | .call_Z_nn _ | .call_NC_nn _ | .call_C_nn _ => if taken i s then [s.sp - 1, s.sp - 2] else []
  | _ =>
    match opcodeOf i with
    | .base _ => []
    | .ext op2 => if op2.toNat % 8 = 6 ∧ op2.toNat / 64 ≠ 1 then [s.hl] else []

/-- The Timer called once for each cost of a list, in order (R294). -/
def timerRun (costs : List Nat) (s : State) : State := costs.foldl (fun u cost => timerIncrease config cost u) s

/-- The eleven INVALID entries (R103, R260). -/
def isInvalid (i : Instr) : Bool :=
  match i with
  | .invalid_D3 | .invalid_DB | .invalid_DD | .invalid_E3 | .invalid_E4 | .invalid_EB | .invalid_EC | .invalid_ED | .invalid_F4
  | .invalid_FC | .invalid_FD => true
  | _ => false

/-- The instructions that write the gate (R262). -/
def writesGate (i : Instr) : Bool :=
  match i with
  | .di | .ei | .reti => true
  | _ => false

/-- The instructions that write the run state (R262). -/
def writesRun (i : Instr) : Bool :=
  match i with
  | .halt | .stop _ => true
  | _ => false

end Sys2Proof.Claims

open Sys2Proof.Claims

/-! ### Encoding -/

/-- R90 to R107: the bytes of every instruction, followed by any bytes, decode to that instruction with every operand and leave
those bytes; `PREFIX CB` alone is no instruction (R105). The opcode values are GK (log 3). -/
def Obligations.DecodeOfEncodedInstruction : Prop :=
  ∀ (i : Instr) (rest : List Byte), i.wellFormed = true → decodeBytes (encode i ++ rest) = .ok (i, rest)

/-- R92, R103: every three bytes decode, and the bytes of the instruction they decode to are those bytes again, so no bit of an
encoding is dropped. -/
def Obligations.EncodeOfDecodedBytes : Prop :=
  ∀ b0 b1 b2 : Byte, encode (decode b0 b1 b2) = [b0, b1, b2].take (instrLength (decode b0 b1 b2))

/-- R90: an instruction is 1, 2 or 3 bytes long, and its length is fixed by the first byte; it is 2 where that byte is 0xCB. -/
def Obligations.LengthFixedByFirstByte : Prop :=
  (∀ i : Instr, 1 ≤ instrLength i ∧ instrLength i ≤ 3)
    ∧ (∀ b0 b1 b2 c1 c2 : Byte, instrLength (decode b0 b1 b2) = instrLength (decode b0 c1 c2))
    ∧ ∀ b1 b2 : Byte, instrLength (decode 0xCB b1 b2) = 2

/-- R105: no bytes decode to the entry `PREFIX CB`; a first byte 0xCB always selects the extended page, and the second byte is
never a prefix: 0xCB 0xCB is SET 1,E. -/
def Obligations.PrefixEntryNeverDecoded : Prop :=
  (∀ b0 b1 b2 : Byte, (decode b0 b1 b2).wellFormed = true)
    ∧ (∀ b1 b2 : Byte, opcodeOf (decode 0xCB b1 b2) = .ext b1)
    ∧ decode 0xCB 0xCB 0x00 = .set_1_E

/-- One word of each family, written out from R99 to R104, decodes to the instruction it stands for; and the eleven unassigned
bytes of R103 are the INVALID entries. -/
def Obligations.SampleEncodingsDecode : Prop :=
  decode 0x80 0 0 = .add_A_B ∧ decode 0x9C 0 0 = .sbc_A_H ∧ decode 0xE6 0x38 0 = .and_n 0x38
    ∧ decode 0x34 0 0 = .inc_atHL ∧ decode 0x27 0 0 = .daa ∧ decode 0x29 0 0 = .add_HL_HL ∧ decode 0xE8 0x02 0 = .add_SP_e 0x02
    ∧ decode 0x1F 0 0 = .rra ∧ decode 0xCB 0x37 0 = .swap_A ∧ decode 0xCB 0x65 0 = .bit_4_L ∧ decode 0xCB 0x9E 0 = .res_3_atHL
    ∧ decode 0xC2 0x34 0x12 = .jp_NZ_nn 0x1234 ∧ decode 0x18 0x10 0 = .jr_e 0x10 ∧ decode 0xCD 0x34 0x12 = .call_nn 0x1234
    ∧ decode 0xF1 0 0 = .pop_AF ∧ decode 0x08 0x00 0xC1 = .ld_atnn_SP 0xC100 ∧ decode 0x6C 0 0 = .ld_L_H
    ∧ decode 0xE0 0x0F 0 = .ldh_atn_A 0x0F ∧ decode 0x76 0 0 = .halt ∧ decode 0x10 0x00 0 = .stop 0x00
    ∧ [decode 0xD3 0 0, decode 0xDB 0 0, decode 0xDD 0 0, decode 0xE3 0 0, decode 0xE4 0 0, decode 0xEB 0 0, decode 0xEC 0 0,
        decode 0xED 0 0, decode 0xF4 0 0, decode 0xFC 0 0, decode 0xFD 0 0]
      = [.invalid_D3, .invalid_DB, .invalid_DD, .invalid_E3, .invalid_E4, .invalid_EB, .invalid_EC, .invalid_ED, .invalid_F4,
        .invalid_FC, .invalid_FD]

/-! ### Memory and the stack -/

/-- R63, R64: after the engine's store every address reads as before but the one stored to, which reads the byte stored, or 0 at
the divider. -/
def Obligations.StoreThenRead : Prop :=
  ∀ (s : State) (addr : Word) (v : Byte), Stored addr v s (memWrite config addr v s)

/-- R68: a push stores the high byte at SP - 1 and the low byte at SP - 2, SP ending 2 lower, and changes nothing else. -/
def Obligations.PushStoresHighByteFirst : Prop :=
  ∀ (s : State) (v : Word), Pushed v s (push16 config v s)
    ∧ Frame [] s (push16 config v s) ∧ (push16 config v s).f = s.f ∧ (push16 config v s).pc = s.pc
    ∧ (push16 config v s).cycles = s.cycles

/-- R69: a push followed by a pop returns the word and restores SP, where neither stack byte is the divider; for the
instructions: PUSH then POP of a register pair gives the pair back, AF included where F's low nibble is zero (R25). -/
def Obligations.PushThenPopRoundTrips : Prop :=
  (∀ (s : State) (v : Word), s.sp - 1 ≠ config.addrDiv → s.sp - 2 ≠ config.addrDiv →
      stackTop (push16 config v s) = v ∧ (dropTop (push16 config v s)).sp = s.sp)
    ∧ ∀ (s t : State) (p : StackPair), s.sp - 1 ≠ config.addrDiv → s.sp - 2 ≠ config.addrDiv → s.flagsClean →
      exec (pushInstr p) s = .next t →
      ∃ u, exec (popInstr p) t = .next u ∧ u.stackPair p = s.stackPair p ∧ u.sp = s.sp

/-- GBDOC section 8 (R206, R208): a CALL followed by a RET brings PC to the instruction after the CALL and SP back, where neither
stack byte is the divider. -/
def Obligations.CallThenReturnRoundTrips : Prop :=
  ∀ (s t : State) (nn : Word), s.sp - 1 ≠ config.addrDiv → s.sp - 2 ≠ config.addrDiv → exec (.call_nn nn) s = .next t →
    ∃ u, exec .ret t = .next u ∧ t.pc = nn ∧ u.pc = s.pc + 3 ∧ u.sp = s.sp

/-! ### The step -/

/-- R270 (order of the stages: decision D1, log 5): when the bytes at PC decode to an instruction, a step of a Running core is that
instruction's effect, then the Timer, the display and the interrupt evaluation, the first two for the cost the instruction added. -/
def Obligations.StepRunsDecodedInstruction : Prop :=
  ∀ (s t : State) (i : Instr) (rest : List Byte), s.run = .running →
    decodeBytes [s.rd s.pc, s.rd (s.pc + 1), s.rd (s.pc + 2)] = .ok (i, rest) → exec i s = .next t →
    step s = .next (interruptEvaluate config
      (displayUpdate config (t.cycles - s.cycles) (timerIncrease config (t.cycles - s.cycles) t)))

/-- R271 (decision D8, log 6): a step of a Halted or Stopped core changes nothing. -/
def Obligations.HaltedCoreDoesNothing : Prop :=
  ∀ s : State, s.run ≠ .running → step s = .next s ∧ (executeNext s).1 = none

/-- R272: the step is total: from every state it answers a next state, never a fault and never a refusal. -/
def Obligations.EveryStepAnswersNext : Prop := ∀ s : State, ∃ t, step s = .next t

/-- R47, R320: the state after reset, whatever the state before; every byte of memory reads 0. The zero of the three accumulators
is decision D16 (log 10). -/
def Obligations.ResetGivesTheTableOfR47 : Prop :=
  ∀ s : State, hostReset s = State.reset
    ∧ (∀ r, State.reset.reg r = 0) ∧ State.reset.f = 0 ∧ State.reset.sp = 0 ∧ State.reset.pc = 0 ∧ State.reset.ime = true
    ∧ State.reset.run = .running ∧ State.reset.cycles = 0 ∧ (∀ x, State.reset.rd x = 0)
    ∧ State.reset.divAcc = 0 ∧ State.reset.timaAcc = 0 ∧ State.reset.lcdAcc = 0

/-- The invariant holds at reset: canonical memory, F's low nibble zero (R25), `tima_acc` below 1024 (R44) and `lcd_acc` below 4560
(inside the bound of R45; from R296 and R298 with decision D23, log 11). That memory has a
canonical form at all is the model's own choice (log 12, DESIGN CHOICE), and that the accumulators are 0 at reset is decision D16
(log 10). -/
def Obligations.InvariantAtReset : Prop := State.reset.Inv

/-- Every step from a state with the invariant keeps it: memory in canonical form, F's low nibble zero (R25; decision D10, log 8),
`tima_acc` below 1024 (R44) and `lcd_acc` below 4560. R45 itself says at most 4559 plus the largest cost; the tighter bound follows from
R296 and R298, whose test and reset of the accumulator are decision D23 (log 11). That memory has a canonical form at all is the model's
own choice (log 12, DESIGN CHOICE). -/
def Obligations.InvariantKeptByEveryStep : Prop := ∀ s t : State, s.Inv → step s = .next t → t.Inv

/-- R42: no rule of the core depends on the cycle counter: two states that differ in it alone step to states that differ in it
alone, by the same amount. -/
def Obligations.CycleCounterOnlyObserved : Prop :=
  ∀ (s t : State) (k : Nat), step s = .next t →
    step { s with cycles := s.cycles + k } = .next { t with cycles := t.cycles + k }

/-- R31, R32, R262: an instruction other than DI, EI and RETI leaves the gate, one other than HALT and STOP the run state, and
none touches the hidden accumulators; in a whole step only EI and RETI can turn the gate on, and only HALT and STOP end Running. -/
def Obligations.OnlyNamedInstructionsWriteControl : Prop :=
  (∀ (i : Instr) (s t : State), exec i s = .next t →
      (writesGate i = false → t.ime = s.ime) ∧ (writesRun i = false → t.run = s.run)
        ∧ t.divAcc = s.divAcc ∧ t.timaAcc = s.timaAcc ∧ t.lcdAcc = s.lcdAcc)
    ∧ ∀ s t : State, step s = .next t →
      (s.ime = false → t.ime = true → fetch s = .ei ∨ fetch s = .reti)
        ∧ (s.run = .running → t.run ≠ .running → writesRun (fetch s) = true)

/-- R27: every instruction writes the flags its row of the table names and no others, forced flags to the value forced; where the
row names none, F is unchanged whole. Rows marked GK or D there are the spec's own (log 4). -/
def Obligations.FlagsFollowTheTable : Prop :=
  ∀ (i : Instr) (s t : State), i.wellFormed = true → exec i s = .next t →
    (flagRow (opcodeOf i)).z.Obeyed s.flagZ t.flagZ ∧ (flagRow (opcodeOf i)).n.Obeyed s.flagN t.flagN
      ∧ (flagRow (opcodeOf i)).h.Obeyed s.flagH t.flagH ∧ (flagRow (opcodeOf i)).c.Obeyed s.flagC t.flagC
      ∧ (flagRow (opcodeOf i) = noFlags → t.f = s.f)

/-- R71: every instruction stores to the addresses its row of the table names and to no others: every other byte of memory reads as
before. -/
def Obligations.StoresFollowTheTable : Prop :=
  ∀ (i : Instr) (s t : State), i.wellFormed = true → exec i s = .next t →
    ∀ x : Word, x ∉ storesTo i s → t.rd x = s.rd x

/-- R213, R346 (decision D3 and GK, log 2): every instruction adds to the counter the cost the cycle table gives its opcode, the taken
or the not-taken one by the outcome of its condition; a cost is a multiple of 4 between 4 and 24. -/
def Obligations.CostsFollowTheTable : Prop :=
  ∀ (i : Instr) (s t : State), i.wellFormed = true → exec i s = .next t →
    t.cycles = s.cycles + config.cycles (opcodeOf i) (taken i s)
      ∧ 4 ≤ config.cycles (opcodeOf i) (taken i s) ∧ config.cycles (opcodeOf i) (taken i s) ≤ 24
      ∧ config.cycles (opcodeOf i) (taken i s) % 4 = 0

/-! ### Interrupts -/

/-- R281, R282: with the gate off, or no source both pending and enabled, the evaluation changes nothing; with the gate on, the
source entered is the one of highest priority that is pending and enabled. Bit numbers: D12 (log 1). -/
def Obligations.HighestPrioritySourceIsTaken : Prop :=
  ∀ s : State,
    (s.ime = false → interruptEvaluate config s = s)
    ∧ ((∀ k : Nat, k < 5 → ((s.rd config.addrIf).getLsbD k && (s.rd config.addrIe).getLsbD k) = false) →
        interruptEvaluate config s = s)
    ∧ ∀ src : Source, s.ime = true → (s.rd config.addrIf).getLsbD (config.irqBit src) = true →
        (s.rd config.addrIe).getLsbD (config.irqBit src) = true →
        (∀ k : Nat, k < config.irqBit src → ((s.rd config.addrIf).getLsbD k && (s.rd config.addrIe).getLsbD k) = false) →
        interruptEvaluate config s = enterInterrupt config src s

/-- R283 (the push: decision D2; no cycles: D25; log 7): entry clears the source's request bit and keeps the others, turns the gate off,
pushes PC, sets PC to the dispatch address and changes nothing else, where neither stack byte is the divider or IF. -/
def Obligations.InterruptEntryEffect : Prop :=
  ∀ (s : State) (src : Source), s.sp - 1 ≠ config.addrDiv → s.sp - 2 ≠ config.addrDiv →
    s.sp - 1 ≠ config.addrIf → s.sp - 2 ≠ config.addrIf →
    let t := enterInterrupt config src s
    (∀ k : Nat, k < 8 → (t.rd config.addrIf).getLsbD k = ((s.rd config.addrIf).getLsbD k && decide (k ≠ config.irqBit src)))
      ∧ t.ime = false ∧ t.pc = config.irqVector src ∧ t.sp = s.sp - 2
      ∧ t.rd (s.sp - 1) = BitVec.ofNat 8 (s.pc.toNat / 256) ∧ t.rd (s.sp - 2) = BitVec.ofNat 8 (s.pc.toNat % 256)
      ∧ (∀ x : Word, x ≠ config.addrIf → x ≠ s.sp - 1 → x ≠ s.sp - 2 → t.rd x = s.rd x)
      ∧ (∀ r, t.reg r = s.reg r) ∧ t.f = s.f ∧ t.run = s.run ∧ t.cycles = s.cycles
      ∧ t.divAcc = s.divAcc ∧ t.timaAcc = s.timaAcc ∧ t.lcdAcc = s.lcdAcc

/-- R284: with `IRQ_PUSH_PC` false, whatever the other parameters, entry clears the source's bit of IF, turns the gate off and sets
PC; SP, every other byte of memory, every register, F, the run state and the cycle counter are unchanged. -/
def Obligations.InterruptEntryWithoutPush : Prop :=
  ∀ (cfg : Config) (s : State) (src : Source), cfg.irqPushPc = false →
    let t := enterInterrupt cfg src s
    t.pc = cfg.irqVector src ∧ t.ime = false ∧ t.sp = s.sp
      ∧ t.rd cfg.addrIf = clearBit8 (s.rd cfg.addrIf) (cfg.irqBit src)
      ∧ (∀ x : Word, x ≠ cfg.addrIf → t.rd x = s.rd x)
      ∧ (∀ r, t.reg r = s.reg r) ∧ t.f = s.f ∧ t.run = s.run ∧ t.cycles = s.cycles

/-- R285 (with the push of D2, log 7): RETI at once after an entry brings back the interrupted PC and SP and turns the gate on, every
general register and F being as before, where neither stack byte is the divider. -/
def Obligations.RetiUndoesInterruptEntry : Prop :=
  ∀ (s : State) (src : Source), s.sp - 1 ≠ config.addrDiv → s.sp - 2 ≠ config.addrDiv →
    ∃ u, exec .reti (enterInterrupt config src s) = .next u ∧ u.pc = s.pc ∧ u.sp = s.sp ∧ u.ime = true
      ∧ (∀ r, u.reg r = s.reg r) ∧ u.f = s.f ∧ u.run = s.run

/-! ### The Timer -/

/-- R290: the divider's accumulator takes the cost modulo 256, and DIV advances by 1, wrapping, exactly when the sum passes 255;
no other byte of memory and no register changes. -/
def Obligations.DividerAdvances : Prop :=
  ∀ (s : State) (cost : Nat),
    let t := timerDivider config cost s
    t.divAcc.toNat = (s.divAcc.toNat + cost) % 256
      ∧ t.rd config.addrDiv = (if s.divAcc.toNat + cost > 255 then s.rd config.addrDiv + 1 else s.rd config.addrDiv)
      ∧ (∀ x : Word, x ≠ config.addrDiv → t.rd x = s.rd x)
      ∧ t = { s with mem := t.mem, divAcc := t.divAcc }

/-- R291, R292 (a loop of ticks: decision D20, log 9): with TAC bit 2 clear only the divider moves; with it set, `tima_acc` ends as the
sum modulo the threshold TAC selects, and TIMA has advanced by the number of whole thresholds as long as it does not overflow. -/
def Obligations.TickAccounting : Prop :=
  ∀ (s : State) (cost : Nat),
    let t := timerIncrease config cost s
    let tac := s.rd config.addrTac
    let th := [1024, 16, 64, 256].getD (tac.toNat % 4) 0
    (tac.getLsbD 2 = false → t = timerDivider config cost s)
      ∧ (tac.getLsbD 2 = true →
          t.timaAcc = (s.timaAcc + cost) % th
            ∧ ((s.rd config.addrTima).toNat + (s.timaAcc + cost) / th ≤ 255 →
                (t.rd config.addrTima).toNat = (s.rd config.addrTima).toNat + (s.timaAcc + cost) / th
                  ∧ t.rd config.addrIf = s.rd config.addrIf))

/-- R293: a tick adds 1 to TIMA; from 0xFF it reloads TIMA from TMA and sets IF bit 2, the other bits of IF kept, and every other
byte of memory reads as before. -/
def Obligations.TickOverflowReloads : Prop :=
  ∀ s : State,
    let t := timerTick config s
    (s.rd config.addrTima ≠ 0xFF → t.rd config.addrTima = s.rd config.addrTima + 1 ∧ t.rd config.addrIf = s.rd config.addrIf)
      ∧ (s.rd config.addrTima = 0xFF → t.rd config.addrTima = s.rd config.addrTma
          ∧ t.rd config.addrIf = s.rd config.addrIf ||| 0x04)
      ∧ (∀ x : Word, x ≠ config.addrTima → x ≠ config.addrIf → t.rd x = s.rd x)
      ∧ t = { s with mem := t.mem }

/-- R294: from TIMA = 0 and `tima_acc` = 0, with the timer enabled at a rate of `th` cycles a tick, ANY sequence of costs that sums
to 256 * th - 1 leaves TIMA = 255 and IF as it was; one more cycle reloads TIMA from TMA and sets the Timer's request bit. -/
def Obligations.TimerOverflowAfterExactCycles : Prop :=
  ∀ (s : State) (costs : List Nat),
    let tac := s.rd config.addrTac
    let th := [1024, 16, 64, 256].getD (tac.toNat % 4) 0
    tac.getLsbD 2 = true → s.rd config.addrTima = 0 → s.timaAcc = 0 → costs.sum = 256 * th - 1 →
    let t := timerRun costs s
    let u := timerIncrease config 1 t
    t.rd config.addrTima = 255 ∧ t.timaAcc = th - 1 ∧ t.rd config.addrIf = s.rd config.addrIf
      ∧ u.rd config.addrTima = s.rd config.addrTma ∧ u.rd config.addrIf = s.rd config.addrIf ||| 0x04 ∧ u.timaAcc = 0

/-! ### The display-timing state machine -/

/-- R296 to R298 (decisions D22 to D24, log 11): an update that does not reach the mode's duration only adds to `lcd_acc`; one that
does resets it, moves STAT[1:0] to the successor keeping bits 7:2, and at the end of Mode0 alone advances LY modulo 154. -/
def Obligations.DisplayModeTransitions : Prop :=
  ∀ (s : State) (cost : Nat),
    let t := displayUpdate config cost s
    let stat := s.rd config.addrStat
    let m := stat.toNat % 4
    let dur := [204, 4560, 80, 172].getD m 0
    let succ := [1, 2, 3, 0].getD m 0
    let ly := s.rd config.addrLy
    (s.lcdAcc + cost < dur → t = { s with lcdAcc := s.lcdAcc + cost })
      ∧ (dur ≤ s.lcdAcc + cost →
          t.lcdAcc = 0 ∧ (t.rd config.addrStat).toNat = 4 * (stat.toNat / 4) + succ
            ∧ (t.rd config.addrLy).toNat = (if m = 0 then (ly.toNat + 1) % 154 else ly.toNat)
            ∧ (∀ x : Word, x ≠ config.addrStat → x ≠ config.addrLy → t.rd x = s.rd x)
            ∧ t = { s with mem := t.mem, lcdAcc := 0 })

/-! ### 8-bit arithmetic and logic -/

/-- R121 to R126: ADD and ADC, every form: `add_A_B` .. `add_A_A`, `add_A_atHL`, `add_A_n`, and the same of `adc`. -/
def Obligations.AddAndAdcResults : Prop :=
  ∀ (s : State) (n : Byte), AluForms .add s n (fun b t => SumIntoA s b 0 t) ∧ AluForms .adc s n (fun b t => SumIntoA s b s.flagC.toNat t)

/-- R127 to R132 and R142 to R144: SUB, SBC and CP, every form: `sub_B` .. `sub_A`, `sub_atHL`, `sub_n`, `sbc_A_…` and `cp_…`. -/
def Obligations.SubSbcAndCpResults : Prop :=
  ∀ (s : State) (n : Byte), AluForms .sub s n (fun b t => DifferenceIntoA s b 0 t)
    ∧ AluForms .sbc s n (fun b t => DifferenceIntoA s b s.flagC.toNat t) ∧ AluForms .cp s n (fun b t => Compared s b t)

/-- R133 to R141: AND, XOR and OR, every form: `and_…`, `xor_…`, `or_…`. -/
def Obligations.LogicResults : Prop :=
  ∀ (s : State) (n : Byte), AluForms .and s n (fun b t => LogicIntoA s (s.a &&& b) true t)
    ∧ AluForms .xor s n (fun b t => LogicIntoA s (s.a ^^^ b) false t) ∧ AluForms .or s n (fun b t => LogicIntoA s (s.a ||| b) false t)

/-- R145, R147: INC r and DEC r, every register: the value wraps, C is kept, H is the carry out of or the borrow into the low
nibble. -/
def Obligations.IncDecRegisterResults : Prop :=
  ∀ (s : State) (r : Reg8),
    let v := (s.reg r).toNat
    (HasBytes (incInstr (.reg r)) [0x04 + 8 * code8 (.reg r)] ∧ ∃ t, exec (incInstr (.reg r)) s = .next t
      ∧ (t.reg r).toNat = (v + 1) % 256 ∧ FlagsAre t (decide ((v + 1) % 256 = 0)) false (decide (v % 16 = 15)) s.flagC
      ∧ t.sp = s.sp ∧ MemSame s t ∧ Frame [r] s t ∧ Retired 1 4 s t)
    ∧ (HasBytes (decInstr (.reg r)) [0x05 + 8 * code8 (.reg r)] ∧ ∃ t, exec (decInstr (.reg r)) s = .next t
      ∧ (t.reg r).toNat = (v + 255) % 256 ∧ FlagsAre t (decide (v = 1)) true (decide (v % 16 = 0)) s.flagC
      ∧ t.sp = s.sp ∧ MemSame s t ∧ Frame [r] s t ∧ Retired 1 4 s t)

/-- R146, R148: INC (HL) and DEC (HL): the flags are those of the value computed, also where the store is to the divider. -/
def Obligations.IncDecMemoryResults : Prop :=
  ∀ s : State,
    let v := (s.rd s.hl).toNat
    (HasBytes .inc_atHL [0x34] ∧ ∃ t, exec .inc_atHL s = .next t ∧ Stored s.hl (BitVec.ofNat 8 (v + 1)) s t
      ∧ FlagsAre t (decide ((v + 1) % 256 = 0)) false (decide (v % 16 = 15)) s.flagC
      ∧ t.sp = s.sp ∧ Frame [] s t ∧ Retired 1 12 s t)
    ∧ (HasBytes .dec_atHL [0x35] ∧ ∃ t, exec .dec_atHL s = .next t ∧ Stored s.hl (BitVec.ofNat 8 (v + 255)) s t
      ∧ FlagsAre t (decide (v = 1)) true (decide (v % 16 = 0)) s.flagC
      ∧ t.sp = s.sp ∧ Frame [] s t ∧ Retired 1 12 s t)

/-- R149: DAA. After an addition 0x06 is added for a low nibble above 9 or H, 0x60 for a value above 0x99 or C, both tests on the
unadjusted A; after a subtraction 0x06 is subtracted for H, 0x60 for C. The thresholds and the subtraction are GK (log 4). -/
def Obligations.DecimalAdjustResult : Prop :=
  ∀ s : State,
    let v := s.a.toNat
    let low := if s.flagH = true ∨ (s.flagN = false ∧ v % 16 > 9) then 0x06 else 0
    let high := if s.flagC = true ∨ (s.flagN = false ∧ v > 0x99) then 0x60 else 0
    HasBytes .daa [0x27] ∧ ∃ t, exec .daa s = .next t
      ∧ (t.a.toNat : Int) = ((v : Int) + (if s.flagN then -1 else 1) * (low + high)) % 256
      ∧ FlagsAre t (decide (t.a = 0)) s.flagN false (decide (high = 0x60))
      ∧ t.sp = s.sp ∧ MemSame s t ∧ Frame [.a] s t ∧ Retired 1 4 s t

/-- R150 to R152: CPL complements A; SCF sets and CCF complements the carry; Z is kept by all three. -/
def Obligations.ComplementAndCarryResults : Prop :=
  ∀ s : State,
    (HasBytes .cpl [0x2F] ∧ ∃ t, exec .cpl s = .next t ∧ t.a.toNat = 255 - s.a.toNat ∧ FlagsAre t s.flagZ true true s.flagC
      ∧ t.sp = s.sp ∧ MemSame s t ∧ Frame [.a] s t ∧ Retired 1 4 s t)
    ∧ (HasBytes .scf [0x37] ∧ ∃ t, exec .scf s = .next t ∧ FlagsAre t s.flagZ false false true
      ∧ t.sp = s.sp ∧ MemSame s t ∧ Frame [] s t ∧ Retired 1 4 s t)
    ∧ (HasBytes .ccf [0x3F] ∧ ∃ t, exec .ccf s = .next t ∧ FlagsAre t s.flagZ false false (!s.flagC)
      ∧ t.sp = s.sp ∧ MemSame s t ∧ Frame [] s t ∧ Retired 1 4 s t)

/-! ### 16-bit arithmetic -/

/-- R160 (H and C from the whole 16-bit sum: decision D5; N and Z: GK; log 4): ADD HL,rr, every pair. -/
def Obligations.AddToHlResults : Prop :=
  ∀ (s : State) (p : Pair),
    let a := s.hl.toNat
    let b := (s.pair p).toNat
    HasBytes (addHlInstr p) [0x09 + 16 * pairCode p] ∧ ∃ t, exec (addHlInstr p) s = .next t
      ∧ t.hl.toNat = (a + b) % 65536
      ∧ FlagsAre t s.flagZ false (decide (a % 4096 + b % 4096 > 4095)) (decide (a + b > 65535))
      ∧ t.sp = s.sp ∧ MemSame s t ∧ Frame [.h, .l] s t ∧ Retired 1 8 s t

/-- R161, R226: ADD SP,e and LD HL,SP+e: the displacement is signed for the value, the flags are those of the unsigned addition of
its byte to the low byte of SP, and Z and N are 0. Both rules are GK (log 4). -/
def Obligations.StackDisplacementResults : Prop :=
  ∀ (s : State) (e : Byte),
    let sum := ((s.sp.toNat : Int) + e.toInt) % 65536
    let half := decide (s.sp.toNat % 16 + e.toNat % 16 > 15)
    let carry := decide (s.sp.toNat % 256 + e.toNat > 255)
    (HasBytes (.add_SP_e e) [0xE8, e.toNat] ∧ ∃ t, exec (.add_SP_e e) s = .next t ∧ (t.sp.toNat : Int) = sum
      ∧ FlagsAre t false false half carry ∧ MemSame s t ∧ Frame [] s t ∧ Retired 2 16 s t)
    ∧ (HasBytes (.ld_HL_SPe e) [0xF8, e.toNat] ∧ ∃ t, exec (.ld_HL_SPe e) s = .next t ∧ (t.hl.toNat : Int) = sum
      ∧ FlagsAre t false false half carry ∧ t.sp = s.sp ∧ MemSame s t ∧ Frame [.h, .l] s t ∧ Retired 2 12 s t)

/-- The registers that a write to a pair changes; SP is none of them. -/
def Sys2Proof.Claims.halves : Pair → List Reg8
  | .bc => [.b, .c]
  | .de => [.d, .e]
  | .hl => [.h, .l]
  | .sp => []

/-- R162, R163 (no flag is written: decision D13, log 4): INC rr and DEC rr, every pair. -/
def Obligations.IncDecPairResults : Prop :=
  ∀ (s : State) (p : Pair),
    let v := (s.pair p).toNat
    (HasBytes (incPairInstr p) [0x03 + 16 * pairCode p] ∧ ∃ t, exec (incPairInstr p) s = .next t
      ∧ (t.pair p).toNat = (v + 1) % 65536 ∧ t.f = s.f ∧ (p ≠ .sp → t.sp = s.sp) ∧ MemSame s t ∧ Frame (halves p) s t
      ∧ Retired 1 8 s t)
    ∧ (HasBytes (decPairInstr p) [0x0B + 16 * pairCode p] ∧ ∃ t, exec (decPairInstr p) s = .next t
      ∧ (t.pair p).toNat = (v + 65535) % 65536 ∧ t.f = s.f ∧ (p ≠ .sp → t.sp = s.sp) ∧ MemSame s t ∧ Frame (halves p) s t
      ∧ Retired 1 8 s t)

/-! ### Rotates, shifts and bits -/

/-- R171 to R174, R198 (Z = 0 always: decision D4, log 4): RLCA, RRCA, RLA, RRA. -/
def Obligations.AccumulatorRotateResults : Prop :=
  ∀ (s : State) (i : Instr) (o : RotOp) (op : Nat),
    (i, o, op) ∈ [(Instr.rlca, RotOp.rlc, 0x07), (.rrca, .rrc, 0x0F), (.rla, .rl, 0x17), (.rra, .rr, 0x1F)] →
    HasBytes i [op] ∧ ∃ t, exec i s = .next t ∧ t.a.toNat = rotNumber o s.a.toNat s.flagC.toNat
      ∧ FlagsAre t false false false (rotOut o s.a.toNat) ∧ t.sp = s.sp ∧ MemSame s t ∧ Frame [.a] s t ∧ Retired 1 4 s t

/-- R175, R177, R179, R181, R183, R185, R187, R189: RLC, RRC, RL, RR, SLA, SRA, SWAP and SRL of a register, every register. -/
def Obligations.RotateRegisterResults : Prop :=
  ∀ (s : State) (o : RotOp) (r : Reg8),
    let v := (s.reg r).toNat
    HasBytes (rotInstr o (.reg r)) [0xCB, 8 * rotCode o + code8 (.reg r)] ∧ ∃ t, exec (rotInstr o (.reg r)) s = .next t
      ∧ (t.reg r).toNat = rotNumber o v s.flagC.toNat
      ∧ FlagsAre t (decide (rotNumber o v s.flagC.toNat = 0)) false false (rotOut o v)
      ∧ t.sp = s.sp ∧ MemSame s t ∧ Frame [r] s t ∧ Retired 2 8 s t

/-- R176, R178, R180, R182, R184, R186, R188, R190: the same eight operations on the byte at HL, read then written. -/
def Obligations.RotateMemoryResults : Prop :=
  ∀ (s : State) (o : RotOp),
    let v := (s.rd s.hl).toNat
    HasBytes (rotInstr o .atHL) [0xCB, 8 * rotCode o + 6] ∧ ∃ t, exec (rotInstr o .atHL) s = .next t
      ∧ Stored s.hl (BitVec.ofNat 8 (rotNumber o v s.flagC.toNat)) s t
      ∧ FlagsAre t (decide (rotNumber o v s.flagC.toNat = 0)) false false (rotOut o v)
      ∧ t.sp = s.sp ∧ Frame [] s t ∧ Retired 2 16 s t

/-- R191, R192: BIT b of a register or of the byte at HL, every bit: Z is the complement of the bit, N clear, H set, C kept; memory
is not written. -/
def Obligations.TestBitResults : Prop :=
  ∀ (s : State) (k : Code3) (x : Operand8),
    HasBytes (bitInstr k x) [0xCB, 0x40 + 8 * k.index + code8 x] ∧ ∃ t, exec (bitInstr k x) s = .next t
      ∧ FlagsAre t (decide ((valueOf x s).toNat / 2 ^ k.index % 2 = 0)) false true s.flagC
      ∧ t.sp = s.sp ∧ MemSame s t ∧ Frame [] s t ∧ Retired 2 (if x = .atHL then 12 else 8) s t

/-- R193, R195: RES b,r and SET b,r, every bit and register: that bit alone changes, and no flag. -/
def Obligations.ResSetRegisterResults : Prop :=
  ∀ (s : State) (k : Code3) (r : Reg8),
    (HasBytes (resInstr k (.reg r)) [0xCB, 0x80 + 8 * k.index + code8 (.reg r)] ∧ ∃ t, exec (resInstr k (.reg r)) s = .next t
      ∧ (∀ j, (t.reg r).getLsbD j = ((s.reg r).getLsbD j && decide (j ≠ k.index)))
      ∧ t.f = s.f ∧ t.sp = s.sp ∧ MemSame s t ∧ Frame [r] s t ∧ Retired 2 8 s t)
    ∧ (HasBytes (setInstr k (.reg r)) [0xCB, 0xC0 + 8 * k.index + code8 (.reg r)] ∧ ∃ t, exec (setInstr k (.reg r)) s = .next t
      ∧ (∀ j, (t.reg r).getLsbD j = ((s.reg r).getLsbD j || decide (j = k.index)))
      ∧ t.f = s.f ∧ t.sp = s.sp ∧ MemSame s t ∧ Frame [r] s t ∧ Retired 2 8 s t)

/-- R194, R196: RES b,(HL) and SET b,(HL), every bit: the byte with that bit changed is stored, also where it was so already, and no
flag is written. -/
def Obligations.ResSetMemoryResults : Prop :=
  ∀ (s : State) (k : Code3),
    (HasBytes (resInstr k .atHL) [0xCB, 0x86 + 8 * k.index] ∧ ∃ t v, exec (resInstr k .atHL) s = .next t
      ∧ (∀ j, v.getLsbD j = ((s.rd s.hl).getLsbD j && decide (j ≠ k.index))) ∧ Stored s.hl v s t
      ∧ t.f = s.f ∧ t.sp = s.sp ∧ Frame [] s t ∧ Retired 2 16 s t)
    ∧ (HasBytes (setInstr k .atHL) [0xCB, 0xC6 + 8 * k.index] ∧ ∃ t v, exec (setInstr k .atHL) s = .next t
      ∧ (∀ j, v.getLsbD j = ((s.rd s.hl).getLsbD j || decide (j = k.index))) ∧ Stored s.hl v s t
      ∧ t.f = s.f ∧ t.sp = s.sp ∧ Frame [] s t ∧ Retired 2 16 s t)

/-! ### Loads and stores -/

/-- R230, R231, R232: LD r,r', LD r,n and LD r,(HL), every register: the address of the last is the HL before the write. -/
def Obligations.LoadRegisterResults : Prop :=
  ∀ (s : State) (r r' : Reg8) (n : Byte),
    (HasBytes (loadInstr (.reg r) (.reg r')) [0x40 + 8 * code8 (.reg r) + code8 (.reg r')]
      ∧ ∃ t, exec (loadInstr (.reg r) (.reg r')) s = .next t ∧ t.reg r = s.reg r'
      ∧ t.f = s.f ∧ t.sp = s.sp ∧ MemSame s t ∧ Frame [r] s t ∧ Retired 1 4 s t)
    ∧ (HasBytes (loadImmInstr n (.reg r)) [0x06 + 8 * code8 (.reg r), n.toNat]
      ∧ ∃ t, exec (loadImmInstr n (.reg r)) s = .next t ∧ t.reg r = n
      ∧ t.f = s.f ∧ t.sp = s.sp ∧ MemSame s t ∧ Frame [r] s t ∧ Retired 2 8 s t)
    ∧ (HasBytes (loadInstr (.reg r) .atHL) [0x46 + 8 * code8 (.reg r)]
      ∧ ∃ t, exec (loadInstr (.reg r) .atHL) s = .next t ∧ t.reg r = s.rd s.hl
      ∧ t.f = s.f ∧ t.sp = s.sp ∧ MemSame s t ∧ Frame [r] s t ∧ Retired 1 8 s t)

/-- R233, R234: LD (HL),r, every register, and LD (HL),n: one byte is stored at HL. -/
def Obligations.StoreThroughHlResults : Prop :=
  ∀ (s : State) (r : Reg8) (n : Byte),
    (HasBytes (loadInstr .atHL (.reg r)) [0x70 + code8 (.reg r)]
      ∧ ∃ t, exec (loadInstr .atHL (.reg r)) s = .next t ∧ Stored s.hl (s.reg r) s t
      ∧ t.f = s.f ∧ t.sp = s.sp ∧ Frame [] s t ∧ Retired 1 8 s t)
    ∧ (HasBytes (.ld_atHL_n n) [0x36, n.toNat]
      ∧ ∃ t, exec (.ld_atHL_n n) s = .next t ∧ Stored s.hl n s t
      ∧ t.f = s.f ∧ t.sp = s.sp ∧ Frame [] s t ∧ Retired 2 12 s t)

/-- R235, R236, R239, R241, R243 (the length 1 of LD A,(C): decision D21, log 3): the loads of A alone: `ld_A_atBC`, `ld_A_atDE`,
`ld_A_atnn`, `ldh_A_atn`, `ld_A_atC`, each from the address its operands name. -/
def Obligations.LoadAccumulatorResults : Prop :=
  ∀ (s : State) (nn : Word) (n : Byte) (i : Instr) (bs : List Nat) (addr : Word) (len cost : Nat),
    (i, bs, addr, len, cost) ∈
      [(Instr.ld_A_atBC, [0x0A], s.pair .bc, 1, 8), (.ld_A_atDE, [0x1A], s.pair .de, 1, 8),
        (.ld_A_atnn nn, [0xFA, nn.toNat % 256, nn.toNat / 256], nn, 3, 16),
        (.ldh_A_atn n, [0xF0, n.toNat], BitVec.ofNat 16 (0xFF00 + n.toNat), 2, 12),
        (.ld_A_atC, [0xF2], BitVec.ofNat 16 (0xFF00 + s.c.toNat), 1, 8)] →
    HasBytes i bs ∧ ∃ t, exec i s = .next t ∧ t.a = s.rd addr
      ∧ t.f = s.f ∧ t.sp = s.sp ∧ MemSame s t ∧ Frame [.a] s t ∧ Retired len cost s t

/-- R237, R238, R240, R242, R244 (the length 1 of LD (C),A: decision D21, log 3): the stores of A alone: `ld_atBC_A`, `ld_atDE_A`,
`ld_atnn_A`, `ldh_atn_A`, `ld_atC_A`. -/
def Obligations.StoreAccumulatorResults : Prop :=
  ∀ (s : State) (nn : Word) (n : Byte) (i : Instr) (bs : List Nat) (addr : Word) (len cost : Nat),
    (i, bs, addr, len, cost) ∈
      [(Instr.ld_atBC_A, [0x02], s.pair .bc, 1, 8), (.ld_atDE_A, [0x12], s.pair .de, 1, 8),
        (.ld_atnn_A nn, [0xEA, nn.toNat % 256, nn.toNat / 256], nn, 3, 16),
        (.ldh_atn_A n, [0xE0, n.toNat], BitVec.ofNat 16 (0xFF00 + n.toNat), 2, 12),
        (.ld_atC_A, [0xE2], BitVec.ofNat 16 (0xFF00 + s.c.toNat), 1, 8)] →
    HasBytes i bs ∧ ∃ t, exec i s = .next t ∧ Stored addr s.a s t
      ∧ t.f = s.f ∧ t.sp = s.sp ∧ Frame [] s t ∧ Retired len cost s t

/-- R245 to R248: the HL+ and HL- forms: the access at the old HL, then HL moves by 1 up or down, wrapping, with no flag written. -/
def Obligations.HlStepResults : Prop :=
  ∀ (s : State) (d : Nat),
    (∀ i op, (i, op, d) ∈ [(Instr.ld_A_atHLinc, 0x2A, 1), (.ld_A_atHLdec, 0x3A, 65535)] →
      HasBytes i [op] ∧ ∃ t, exec i s = .next t ∧ t.a = s.rd s.hl ∧ t.hl.toNat = (s.hl.toNat + d) % 65536
        ∧ t.f = s.f ∧ t.sp = s.sp ∧ MemSame s t ∧ Frame [.a, .h, .l] s t ∧ Retired 1 8 s t)
    ∧ (∀ i op, (i, op, d) ∈ [(Instr.ld_atHLinc_A, 0x22, 1), (.ld_atHLdec_A, 0x32, 65535)] →
      HasBytes i [op] ∧ ∃ t, exec i s = .next t ∧ Stored s.hl s.a s t ∧ t.hl.toNat = (s.hl.toNat + d) % 65536
        ∧ t.f = s.f ∧ t.sp = s.sp ∧ Frame [.h, .l] s t ∧ Retired 1 8 s t)

/-- R223, R225: LD rr,nn, every pair, and LD SP,HL. -/
def Obligations.LoadPairResults : Prop :=
  ∀ (s : State) (p : Pair) (nn : Word),
    (HasBytes (loadPairInstr nn p) [0x01 + 16 * pairCode p, nn.toNat % 256, nn.toNat / 256]
      ∧ ∃ t, exec (loadPairInstr nn p) s = .next t ∧ t.pair p = nn
      ∧ t.f = s.f ∧ (p ≠ .sp → t.sp = s.sp) ∧ MemSame s t ∧ Frame (halves p) s t ∧ Retired 3 12 s t)
    ∧ (HasBytes .ld_SP_HL [0xF9] ∧ ∃ t, exec .ld_SP_HL s = .next t ∧ t.sp = word s.h s.l
      ∧ t.f = s.f ∧ MemSame s t ∧ Frame [] s t ∧ Retired 1 8 s t)

/-- R224: LD (nn),SP: the low byte of SP at nn, the high byte at nn + 1, wrapping; a byte that falls on the divider is 0. -/
def Obligations.StoreStackPointerResult : Prop :=
  ∀ (s : State) (nn : Word),
    HasBytes (.ld_atnn_SP nn) [0x08, nn.toNat % 256, nn.toNat / 256] ∧ ∃ t, exec (.ld_atnn_SP nn) s = .next t
      ∧ t.rd nn = (if nn = config.addrDiv then 0 else BitVec.ofNat 8 (s.sp.toNat % 256))
      ∧ t.rd (nn + 1) = (if nn + 1 = config.addrDiv then 0 else BitVec.ofNat 8 (s.sp.toNat / 256))
      ∧ (∀ x : Word, x ≠ nn → x ≠ nn + 1 → t.rd x = s.rd x)
      ∧ t.f = s.f ∧ t.sp = s.sp ∧ Frame [] s t ∧ Retired 3 20 s t

/-- R220: PUSH rr, every pair: the pair is pushed, the high register at the higher address. -/
def Obligations.PushResults : Prop :=
  ∀ (s : State) (p : StackPair),
    HasBytes (pushInstr p) [0xC5 + 16 * stackPairCode p] ∧ ∃ t, exec (pushInstr p) s = .next t
      ∧ Pushed (match p with
          | .bc => word s.b s.c
          | .de => word s.d s.e
          | .hl => word s.h s.l
          | .af => word s.a s.f) s t
      ∧ t.f = s.f ∧ Frame [] s t ∧ Retired 1 16 s t

/-- R221, R222 (POP AF masks the low nibble of F: decision D10, log 8): POP rr, every pair: the low byte at SP, the high byte at
SP + 1, SP 2 higher, memory unchanged. -/
def Obligations.PopResults : Prop :=
  ∀ (s : State) (p : StackPair),
    let hi := s.rd (s.sp + 1)
    let lo := s.rd s.sp
    HasBytes (popInstr p) [0xC1 + 16 * stackPairCode p] ∧ ∃ t, exec (popInstr p) s = .next t
      ∧ (match p with
          | .bc => t.b = hi ∧ t.c = lo ∧ t.f = s.f ∧ Frame [.b, .c] s t
          | .de => t.d = hi ∧ t.e = lo ∧ t.f = s.f ∧ Frame [.d, .e] s t
          | .hl => t.h = hi ∧ t.l = lo ∧ t.f = s.f ∧ Frame [.h, .l] s t
          | .af => t.a = hi ∧ FlagsAre t (lo.getLsbD 7) (lo.getLsbD 6) (lo.getLsbD 5) (lo.getLsbD 4) ∧ Frame [.a] s t)
      ∧ t.sp = s.sp + 2 ∧ MemSame s t ∧ Retired 1 12 s t

/-! ### Control transfer -/

/-- What a condition of R200 tests. -/
def Sys2Proof.Claims.holds (cc : Cond) (s : State) : Bool :=
  match cc with
  | .nz => !s.flagZ
  | .z => s.flagZ
  | .nc => !s.flagC
  | .c => s.flagC

/-- The relative target of R204: from the address after the instruction, signed, wrapping. -/
def Sys2Proof.Claims.jumpTarget (s : State) (e : Byte) : Word := BitVec.ofInt 16 ((s.pc.toNat : Int) + 2 + e.toInt)

/-- R201 to R205: JP nn, JP HL, JR e and, for every condition, JP cc,nn and JR cc,e: taken, PC is the target; not taken, PC has
passed the instruction, at the lower cost. -/
def Obligations.JumpResults : Prop :=
  ∀ (s : State) (nn : Word) (e : Byte) (cc : Cond),
    (HasBytes (.jp_nn nn) [0xC3, nn.toNat % 256, nn.toNat / 256] ∧ ∃ t, exec (.jp_nn nn) s = .next t
      ∧ Went nn 16 s t ∧ t.f = s.f ∧ t.sp = s.sp ∧ MemSame s t ∧ Frame [] s t)
    ∧ (HasBytes .jp_HL [0xE9] ∧ ∃ t, exec .jp_HL s = .next t
      ∧ Went (word s.h s.l) 4 s t ∧ t.f = s.f ∧ t.sp = s.sp ∧ MemSame s t ∧ Frame [] s t)
    ∧ (HasBytes (.jr_e e) [0x18, e.toNat] ∧ ∃ t, exec (.jr_e e) s = .next t
      ∧ Went (jumpTarget s e) 12 s t ∧ t.f = s.f ∧ t.sp = s.sp ∧ MemSame s t ∧ Frame [] s t)
    ∧ (HasBytes (jumpIfInstr nn cc) [0xC2 + 8 * condCode cc, nn.toNat % 256, nn.toNat / 256]
      ∧ ∃ t, exec (jumpIfInstr nn cc) s = .next t
      ∧ (if holds cc s then Went nn 16 s t else Retired 3 12 s t) ∧ t.f = s.f ∧ t.sp = s.sp ∧ MemSame s t ∧ Frame [] s t)
    ∧ (HasBytes (jumpRelIfInstr e cc) [0x20 + 8 * condCode cc, e.toNat] ∧ ∃ t, exec (jumpRelIfInstr e cc) s = .next t
      ∧ (if holds cc s then Went (jumpTarget s e) 12 s t else Retired 2 8 s t)
      ∧ t.f = s.f ∧ t.sp = s.sp ∧ MemSame s t ∧ Frame [] s t)

/-- R206, R207, R211: CALL nn, CALL cc,nn for every condition, and RST t for every target: taken, the address after the
instruction is pushed and PC is the target; not taken, nothing is pushed. -/
def Obligations.CallAndRestartResults : Prop :=
  ∀ (s : State) (nn : Word) (cc : Cond) (y : Code3),
    (HasBytes (.call_nn nn) [0xCD, nn.toNat % 256, nn.toNat / 256] ∧ ∃ t, exec (.call_nn nn) s = .next t
      ∧ Pushed (s.pc + 3) s t ∧ Went nn 24 s t ∧ t.f = s.f ∧ Frame [] s t)
    ∧ (HasBytes (callIfInstr nn cc) [0xC4 + 8 * condCode cc, nn.toNat % 256, nn.toNat / 256]
      ∧ ∃ t, exec (callIfInstr nn cc) s = .next t
      ∧ (if holds cc s then Pushed (s.pc + 3) s t ∧ Went nn 24 s t else t.sp = s.sp ∧ MemSame s t ∧ Retired 3 12 s t)
      ∧ t.f = s.f ∧ Frame [] s t)
    ∧ (HasBytes (rstInstr y) [0xC7 + 8 * y.index] ∧ ∃ t, exec (rstInstr y) s = .next t
      ∧ Pushed (s.pc + 1) s t ∧ Went (BitVec.ofNat 16 (8 * y.index)) 16 s t ∧ t.f = s.f ∧ Frame [] s t)

/-- R208 to R210: RET, RET cc for every condition, and RETI: PC is the word popped and SP is 2 higher; not taken, SP is unchanged;
RETI also turns the gate on. -/
def Obligations.ReturnResults : Prop :=
  ∀ (s : State) (cc : Cond),
    (HasBytes .ret [0xC9] ∧ ∃ t, exec .ret s = .next t
      ∧ Went (topWord s) 16 s t ∧ t.sp = s.sp + 2 ∧ t.f = s.f ∧ MemSame s t ∧ Frame [] s t)
    ∧ (HasBytes (retIfInstr cc) [0xC0 + 8 * condCode cc] ∧ ∃ t, exec (retIfInstr cc) s = .next t
      ∧ (if holds cc s then Went (topWord s) 20 s t ∧ t.sp = s.sp + 2 else t.sp = s.sp ∧ Retired 1 8 s t)
      ∧ t.f = s.f ∧ MemSame s t ∧ Frame [] s t)
    ∧ (HasBytes .reti [0xD9] ∧ ∃ t, exec .reti s = .next t
      ∧ Went (topWord s) 16 s t ∧ t.sp = s.sp + 2 ∧ t.ime = true ∧ t.f = s.f ∧ MemSame s t
      ∧ Frame [] { s with ime := true } t)

/-! ### System instructions -/

/-- R255 to R260 (HALT terminal: D8, log 6; STOP 2 bytes: D17, log 3; EI without delay: D9, log 6; INVALID of 1 byte and 4 cycles: D7, log 3):
NOP and the eleven INVALID opcodes do only the bookkeeping; HALT and STOP set the run state; DI and EI set the gate. -/
def Obligations.SystemResults : Prop :=
  ∀ (s : State) (pad : Byte),
    (∀ i op, (i, op) ∈ [(Instr.nop, 0x00), (.invalid_D3, 0xD3), (.invalid_DB, 0xDB), (.invalid_DD, 0xDD), (.invalid_E3, 0xE3),
        (.invalid_E4, 0xE4), (.invalid_EB, 0xEB), (.invalid_EC, 0xEC), (.invalid_ED, 0xED), (.invalid_F4, 0xF4),
        (.invalid_FC, 0xFC), (.invalid_FD, 0xFD)] →
      HasBytes i [op] ∧ exec i s = .next { s with pc := s.pc + 1, cycles := s.cycles + 4 })
    ∧ (HasBytes .halt [0x76] ∧ exec .halt s = .next { s with run := .halted, pc := s.pc + 1, cycles := s.cycles + 4 })
    ∧ (HasBytes (.stop pad) [0x10, pad.toNat]
      ∧ exec (.stop pad) s = .next { s with run := .stopped, pc := s.pc + 2, cycles := s.cycles + 4 })
    ∧ (HasBytes .di [0xF3] ∧ exec .di s = .next { s with ime := false, pc := s.pc + 1, cycles := s.cycles + 4 })
    ∧ (HasBytes .ei [0xFB] ∧ exec .ei s = .next { s with ime := true, pc := s.pc + 1, cycles := s.cycles + 4 })

/-- The entry `PREFIX CB` answers, for every byte after it and every state, the next state of the extended instruction that byte selects
(R104). This is the model's own choice (log 16, DESIGN CHOICE): R261 says that the entry is never dispatched and gives it no operation, and
only that the instruction is the extended one; the decoder never yields the term (R105). -/
def Obligations.PrefixEntryIsTheExtendedInstruction : Prop :=
  ∀ (s : State) (op2 : Byte), ∃ t, exec (.prefix_CB op2) s = .next t ∧ exec (decodeExt op2) s = .next t

/-! ### The parameters -/

/-- R7, R270 to R272: the step at any choice of the parameters. At the defaults `stepWith` is `step`. At every choice a step of a
core that is not Running changes nothing, and a step of a Running core answers a next state: the instruction's effect, which adds the cost
the chosen table gives (R213, or `INVALID_CYCLES`, R260), then the Timer, the display and the interrupt evaluation at the chosen parameters
for that cost. The order of the stages is decision D1 (log 5); that a cycle counter of a stated width wraps when the instruction ends is the
model's choice (log 24, DESIGN CHOICE). -/
def Obligations.StepAtAnyParameters : Prop :=
  (∀ s : State, stepWith config s = step s)
    ∧ ∀ (cfg : Config) (s : State),
      (s.run ≠ .running → stepWith cfg s = .next s)
      ∧ (s.run = .running →
          let i := fetch s
          let cost := if isInvalid i then cfg.invalidCycles else cfg.cycles (opcodeOf i) (taken i s)
          ∃ t, execWith cfg i s = .next t ∧ t.cycles = s.cycles + cost
            ∧ stepWith cfg s = .next (interruptEvaluate cfg (displayUpdate cfg cost
                (timerIncrease cfg cost { t with cycles := wrapTo cfg.cycleCounterWidth t.cycles }))))
end

