-- ==== Sys2Proof/Laws/Memory.lean ====
section
/-! SUPPORT. The laws of the memory list: a read after a write, and that every operation keeps the canonical form, in which equal
memories are equal lists. The read laws need no canonical form. -/
namespace Sys2Proof.Machine

theorem Memory.read_without (m : Memory) (a b : Nat) :
    (m.without a).read b = if b = a then unlistedByte else m.read b := by
  induction m with
  | nil => simp [Memory.without, Memory.read]
  | cons c m ih =>
    obtain ⟨k, v⟩ := c
    by_cases hk : k = a
    · subst hk
      by_cases hb : b = k
      · simpa [Memory.without, hb] using ih
      · simpa [Memory.without, Memory.read, hb, Ne.symm hb] using ih
    · by_cases hb : k = b
      · subst hb; simp [Memory.without, Memory.read, hk]
      · simpa [Memory.without, Memory.read, hk, hb] using ih

/-- Where no entry names the address, the entry put in is the one read. -/
theorem Memory.read_place (m : Memory) (a b : Nat) (v : Byte) (h : ∀ c ∈ m, c.1 ≠ a) :
    (m.place a v).read b = if b = a then v else m.read b := by
  induction m with
  | nil => simp [Memory.place, Memory.read, eq_comm]
  | cons c m ih =>
    obtain ⟨k, w⟩ := c
    have hk : k ≠ a := h (k, w) (by simp)
    have hm := ih fun c hc => h c (by simp [hc])
    by_cases hlt : a < k
    · by_cases hb : b = a
      · simp [Memory.place, Memory.read, hlt, hb]
      · simp [Memory.place, Memory.read, hlt, hb, Ne.symm hb]
    · by_cases hb : k = b
      · subst hb; simp [Memory.place, Memory.read, hlt, hk]
      · simpa [Memory.place, Memory.read, hlt, hb] using hm

theorem Memory.mem_without {m : Memory} {a : Nat} {c : Host.Cell} (h : c ∈ m.without a) : c ∈ m ∧ c.1 ≠ a := by
  induction m with
  | nil => simp [Memory.without] at h
  | cons d m ih =>
    obtain ⟨k, v⟩ := d
    by_cases hk : k = a
    · simp only [Memory.without, hk, if_true] at h
      exact ⟨List.mem_cons_of_mem _ (ih h).1, (ih h).2⟩
    · simp only [Memory.without, hk, if_false, List.mem_cons] at h
      rcases h with rfl | h
      · exact ⟨List.mem_cons_self, hk⟩
      · exact ⟨List.mem_cons_of_mem _ (ih h).1, (ih h).2⟩

/-- A read after a write: the byte written at its address, every other address as before. -/
@[simp] theorem Memory.read_write (m : Memory) (a b : Nat) (v : Byte) :
    (m.write a v).read b = if b = a then v else m.read b := by
  unfold Memory.write
  split
  · subst v; exact Memory.read_without m a b
  · rw [Memory.read_place _ _ _ _ fun c hc => (Memory.mem_without hc).2, Memory.read_without]
    split <;> rfl

theorem Memory.wf_cons {a : Nat} {v : Byte} {m : Memory} :
    Memory.wf ((a, v) :: m) = true ↔ a < 65536 ∧ v ≠ unlistedByte ∧ (∀ c ∈ m, a < c.1) ∧ Memory.wf m = true := by
  simp [Memory.wf, and_assoc]

theorem Memory.wf_without {m : Memory} (a : Nat) (h : m.wf = true) : (m.without a).wf = true := by
  induction m with
  | nil => rfl
  | cons c m ih =>
    obtain ⟨k, v⟩ := c
    obtain ⟨h1, h2, h3, h4⟩ := Memory.wf_cons.1 h
    by_cases hk : k = a
    · simpa [Memory.without, hk] using ih h4
    · simp only [Memory.without, hk, if_false]
      exact Memory.wf_cons.2 ⟨h1, h2, fun c hc => h3 c (Memory.mem_without hc).1, ih h4⟩

theorem Memory.mem_place {m : Memory} {a : Nat} {v : Byte} {c : Host.Cell} (h : c ∈ m.place a v) : c = (a, v) ∨ c ∈ m := by
  induction m with
  | nil => simpa [Memory.place] using h
  | cons d m ih =>
    obtain ⟨k, w⟩ := d
    unfold Memory.place at h
    split at h
    · simpa using h
    · rcases List.mem_cons.1 h with rfl | h
      · exact .inr List.mem_cons_self
      · exact (ih h).imp id (List.mem_cons_of_mem _)

theorem Memory.wf_place {m : Memory} {a : Nat} {v : Byte} (h : m.wf = true) (ha : a < 65536) (hv : v ≠ unlistedByte)
    (hm : ∀ c ∈ m, c.1 ≠ a) : (m.place a v).wf = true := by
  induction m with
  | nil => exact Memory.wf_cons.2 ⟨ha, hv, by simp, rfl⟩
  | cons d m ih =>
    obtain ⟨k, w⟩ := d
    obtain ⟨h1, h2, h3, h4⟩ := Memory.wf_cons.1 h
    have hk : k ≠ a := hm (k, w) List.mem_cons_self
    unfold Memory.place
    split
    · next hlt =>
      refine Memory.wf_cons.2 ⟨ha, hv, fun c hc => ?_, h⟩
      rcases List.mem_cons.1 hc with rfl | hc
      · exact hlt
      · exact Nat.lt_trans hlt (h3 c hc)
    · next hlt =>
      refine Memory.wf_cons.2 ⟨h1, h2, fun c hc => ?_, ih h4 fun c hc => hm c (List.mem_cons_of_mem _ hc)⟩
      rcases Memory.mem_place hc with rfl | hc
      · exact Nat.lt_of_le_of_ne (Nat.le_of_not_lt hlt) hk
      · exact h3 c hc

/-- A write keeps the canonical form. -/
theorem Memory.wf_write {m : Memory} {a : Nat} (v : Byte) (h : m.wf = true) (ha : a < 65536) : (m.write a v).wf = true := by
  unfold Memory.write
  split
  · exact Memory.wf_without a h
  · next hv => exact Memory.wf_place (Memory.wf_without a h) ha hv fun c hc => (Memory.mem_without hc).2

/-- An address below every entry reads as unlisted. -/
theorem Memory.read_below {m : Memory} {b : Nat} (h : ∀ c ∈ m, b < c.1) : m.read b = unlistedByte := by
  induction m with
  | nil => rfl
  | cons c m ih =>
    obtain ⟨k, v⟩ := c
    have hk : b < k := h (k, v) List.mem_cons_self
    simpa [Memory.read, Nat.ne_of_gt hk] using ih fun c hc => h c (List.mem_cons_of_mem _ hc)

/-- Two memories in the canonical form that read the same everywhere are the same list. -/
theorem Memory.ext_of_read {m m' : Memory} (h : m.wf = true) (h' : m'.wf = true) (hr : ∀ b, m.read b = m'.read b) : m = m' := by
  induction m generalizing m' with
  | nil =>
    cases m' with
    | nil => rfl
    | cons d m' =>
      obtain ⟨k, w⟩ := d
      exact absurd (by simpa [Memory.read] using (hr k).symm) (Memory.wf_cons.1 h').2.1
  | cons c m ih =>
    obtain ⟨k, v⟩ := c
    obtain ⟨-, hv, hlt, hm⟩ := Memory.wf_cons.1 h
    cases m' with
    | nil => exact absurd (by simpa [Memory.read] using hr k) hv
    | cons d m' =>
      obtain ⟨k', v'⟩ := d
      obtain ⟨-, hv', hlt', hm'⟩ := Memory.wf_cons.1 h'
      have hk : k = k' := by
        rcases Nat.lt_trichotomy k k' with hk | hk | hk
        · refine absurd ?_ hv
          have := hr k
          rwa [Memory.read, if_pos rfl, Memory.read_below fun c hc => ?_] at this
          rcases List.mem_cons.1 hc with rfl | hc
          · exact hk
          · exact Nat.lt_trans hk (hlt' c hc)
        · exact hk
        · refine absurd ?_ hv'
          have := (hr k').symm
          rwa [Memory.read, if_pos rfl, Memory.read_below fun c hc => ?_] at this
          rcases List.mem_cons.1 hc with rfl | hc
          · exact hk
          · exact Nat.lt_trans hk (hlt c hc)
      subst hk
      have hvv : v = v' := by simpa [Memory.read] using hr k
      subst hvv
      congr 1
      refine ih hm hm' fun b => ?_
      by_cases hb : k = b
      · subst hb; rw [Memory.read_below hlt, Memory.read_below hlt']
      · simpa [Memory.read, hb] using hr b

end Sys2Proof.Machine
end

