-- ==== Sys2Proof/Laws/State.lean ====
section
/-! SUPPORT. One lemma per field and per update of State, and the same for what is read from a State (a register, a pair, a flag, a
byte of memory), so that no later proof unfolds a record update. -/
namespace Sys2Proof.Machine

/-! ### `poke` -/

@[simp] theorem poke_a (s : State) (x : Word) (v : Byte) : (s.poke x v).a = s.a := rfl
@[simp] theorem poke_f (s : State) (x : Word) (v : Byte) : (s.poke x v).f = s.f := rfl
@[simp] theorem poke_b (s : State) (x : Word) (v : Byte) : (s.poke x v).b = s.b := rfl
@[simp] theorem poke_c (s : State) (x : Word) (v : Byte) : (s.poke x v).c = s.c := rfl
@[simp] theorem poke_d (s : State) (x : Word) (v : Byte) : (s.poke x v).d = s.d := rfl
@[simp] theorem poke_e (s : State) (x : Word) (v : Byte) : (s.poke x v).e = s.e := rfl
@[simp] theorem poke_h (s : State) (x : Word) (v : Byte) : (s.poke x v).h = s.h := rfl
@[simp] theorem poke_l (s : State) (x : Word) (v : Byte) : (s.poke x v).l = s.l := rfl
@[simp] theorem poke_sp (s : State) (x : Word) (v : Byte) : (s.poke x v).sp = s.sp := rfl
@[simp] theorem poke_pc (s : State) (x : Word) (v : Byte) : (s.poke x v).pc = s.pc := rfl
@[simp] theorem poke_ime (s : State) (x : Word) (v : Byte) : (s.poke x v).ime = s.ime := rfl
@[simp] theorem poke_run (s : State) (x : Word) (v : Byte) : (s.poke x v).run = s.run := rfl
@[simp] theorem poke_cycles (s : State) (x : Word) (v : Byte) : (s.poke x v).cycles = s.cycles := rfl
@[simp] theorem poke_divAcc (s : State) (x : Word) (v : Byte) : (s.poke x v).divAcc = s.divAcc := rfl
@[simp] theorem poke_timaAcc (s : State) (x : Word) (v : Byte) : (s.poke x v).timaAcc = s.timaAcc := rfl
@[simp] theorem poke_lcdAcc (s : State) (x : Word) (v : Byte) : (s.poke x v).lcdAcc = s.lcdAcc := rfl
@[simp] theorem poke_reg (s : State) (x : Word) (v : Byte) (r : Reg8) : (s.poke x v).reg r = s.reg r := by cases r <;> rfl
@[simp] theorem poke_pair (s : State) (x : Word) (v : Byte) (p : Pair) : (s.poke x v).pair p = s.pair p := by cases p <;> rfl
@[simp] theorem poke_hl (s : State) (x : Word) (v : Byte) : (s.poke x v).hl = s.hl := rfl
@[simp] theorem poke_stackPair (s : State) (x : Word) (v : Byte) (p : StackPair) : (s.poke x v).stackPair p = s.stackPair p := by cases p <;> rfl
@[simp] theorem poke_flagZ (s : State) (x : Word) (v : Byte) : (s.poke x v).flagZ = s.flagZ := rfl
@[simp] theorem poke_flagN (s : State) (x : Word) (v : Byte) : (s.poke x v).flagN = s.flagN := rfl
@[simp] theorem poke_flagH (s : State) (x : Word) (v : Byte) : (s.poke x v).flagH = s.flagH := rfl
@[simp] theorem poke_flagC (s : State) (x : Word) (v : Byte) : (s.poke x v).flagC = s.flagC := rfl
@[simp] theorem poke_cond (s : State) (x : Word) (v : Byte) (cc : Cond) : (s.poke x v).cond cc = s.cond cc := by cases cc <;> rfl

/-! ### `memWrite` -/

@[simp] theorem memWrite_a (cfg : Config) (x : Word) (v : Byte) (s : State) : (memWrite cfg x v s).a = s.a := rfl
@[simp] theorem memWrite_f (cfg : Config) (x : Word) (v : Byte) (s : State) : (memWrite cfg x v s).f = s.f := rfl
@[simp] theorem memWrite_b (cfg : Config) (x : Word) (v : Byte) (s : State) : (memWrite cfg x v s).b = s.b := rfl
@[simp] theorem memWrite_c (cfg : Config) (x : Word) (v : Byte) (s : State) : (memWrite cfg x v s).c = s.c := rfl
@[simp] theorem memWrite_d (cfg : Config) (x : Word) (v : Byte) (s : State) : (memWrite cfg x v s).d = s.d := rfl
@[simp] theorem memWrite_e (cfg : Config) (x : Word) (v : Byte) (s : State) : (memWrite cfg x v s).e = s.e := rfl
@[simp] theorem memWrite_h (cfg : Config) (x : Word) (v : Byte) (s : State) : (memWrite cfg x v s).h = s.h := rfl
@[simp] theorem memWrite_l (cfg : Config) (x : Word) (v : Byte) (s : State) : (memWrite cfg x v s).l = s.l := rfl
@[simp] theorem memWrite_sp (cfg : Config) (x : Word) (v : Byte) (s : State) : (memWrite cfg x v s).sp = s.sp := rfl
@[simp] theorem memWrite_pc (cfg : Config) (x : Word) (v : Byte) (s : State) : (memWrite cfg x v s).pc = s.pc := rfl
@[simp] theorem memWrite_ime (cfg : Config) (x : Word) (v : Byte) (s : State) : (memWrite cfg x v s).ime = s.ime := rfl
@[simp] theorem memWrite_run (cfg : Config) (x : Word) (v : Byte) (s : State) : (memWrite cfg x v s).run = s.run := rfl
@[simp] theorem memWrite_cycles (cfg : Config) (x : Word) (v : Byte) (s : State) : (memWrite cfg x v s).cycles = s.cycles := rfl
@[simp] theorem memWrite_divAcc (cfg : Config) (x : Word) (v : Byte) (s : State) : (memWrite cfg x v s).divAcc = s.divAcc := rfl
@[simp] theorem memWrite_timaAcc (cfg : Config) (x : Word) (v : Byte) (s : State) : (memWrite cfg x v s).timaAcc = s.timaAcc := rfl
@[simp] theorem memWrite_lcdAcc (cfg : Config) (x : Word) (v : Byte) (s : State) : (memWrite cfg x v s).lcdAcc = s.lcdAcc := rfl
@[simp] theorem memWrite_reg (cfg : Config) (x : Word) (v : Byte) (s : State) (r : Reg8) : (memWrite cfg x v s).reg r = s.reg r := by cases r <;> rfl
@[simp] theorem memWrite_pair (cfg : Config) (x : Word) (v : Byte) (s : State) (p : Pair) : (memWrite cfg x v s).pair p = s.pair p := by cases p <;> rfl
@[simp] theorem memWrite_hl (cfg : Config) (x : Word) (v : Byte) (s : State) : (memWrite cfg x v s).hl = s.hl := rfl
@[simp] theorem memWrite_stackPair (cfg : Config) (x : Word) (v : Byte) (s : State) (p : StackPair) : (memWrite cfg x v s).stackPair p = s.stackPair p := by cases p <;> rfl
@[simp] theorem memWrite_flagZ (cfg : Config) (x : Word) (v : Byte) (s : State) : (memWrite cfg x v s).flagZ = s.flagZ := rfl
@[simp] theorem memWrite_flagN (cfg : Config) (x : Word) (v : Byte) (s : State) : (memWrite cfg x v s).flagN = s.flagN := rfl
@[simp] theorem memWrite_flagH (cfg : Config) (x : Word) (v : Byte) (s : State) : (memWrite cfg x v s).flagH = s.flagH := rfl
@[simp] theorem memWrite_flagC (cfg : Config) (x : Word) (v : Byte) (s : State) : (memWrite cfg x v s).flagC = s.flagC := rfl
@[simp] theorem memWrite_cond (cfg : Config) (x : Word) (v : Byte) (s : State) (cc : Cond) : (memWrite cfg x v s).cond cc = s.cond cc := by cases cc <;> rfl

/-! ### `memWrite16` -/

@[simp] theorem memWrite16_a (cfg : Config) (x v : Word) (s : State) : (memWrite16 cfg x v s).a = s.a := rfl
@[simp] theorem memWrite16_f (cfg : Config) (x v : Word) (s : State) : (memWrite16 cfg x v s).f = s.f := rfl
@[simp] theorem memWrite16_b (cfg : Config) (x v : Word) (s : State) : (memWrite16 cfg x v s).b = s.b := rfl
@[simp] theorem memWrite16_c (cfg : Config) (x v : Word) (s : State) : (memWrite16 cfg x v s).c = s.c := rfl
@[simp] theorem memWrite16_d (cfg : Config) (x v : Word) (s : State) : (memWrite16 cfg x v s).d = s.d := rfl
@[simp] theorem memWrite16_e (cfg : Config) (x v : Word) (s : State) : (memWrite16 cfg x v s).e = s.e := rfl
@[simp] theorem memWrite16_h (cfg : Config) (x v : Word) (s : State) : (memWrite16 cfg x v s).h = s.h := rfl
@[simp] theorem memWrite16_l (cfg : Config) (x v : Word) (s : State) : (memWrite16 cfg x v s).l = s.l := rfl
@[simp] theorem memWrite16_sp (cfg : Config) (x v : Word) (s : State) : (memWrite16 cfg x v s).sp = s.sp := rfl
@[simp] theorem memWrite16_pc (cfg : Config) (x v : Word) (s : State) : (memWrite16 cfg x v s).pc = s.pc := rfl
@[simp] theorem memWrite16_ime (cfg : Config) (x v : Word) (s : State) : (memWrite16 cfg x v s).ime = s.ime := rfl
@[simp] theorem memWrite16_run (cfg : Config) (x v : Word) (s : State) : (memWrite16 cfg x v s).run = s.run := rfl
@[simp] theorem memWrite16_cycles (cfg : Config) (x v : Word) (s : State) : (memWrite16 cfg x v s).cycles = s.cycles := rfl
@[simp] theorem memWrite16_divAcc (cfg : Config) (x v : Word) (s : State) : (memWrite16 cfg x v s).divAcc = s.divAcc := rfl
@[simp] theorem memWrite16_timaAcc (cfg : Config) (x v : Word) (s : State) : (memWrite16 cfg x v s).timaAcc = s.timaAcc := rfl
@[simp] theorem memWrite16_lcdAcc (cfg : Config) (x v : Word) (s : State) : (memWrite16 cfg x v s).lcdAcc = s.lcdAcc := rfl
@[simp] theorem memWrite16_reg (cfg : Config) (x v : Word) (s : State) (r : Reg8) : (memWrite16 cfg x v s).reg r = s.reg r := by cases r <;> rfl
@[simp] theorem memWrite16_pair (cfg : Config) (x v : Word) (s : State) (p : Pair) : (memWrite16 cfg x v s).pair p = s.pair p := by cases p <;> rfl
@[simp] theorem memWrite16_hl (cfg : Config) (x v : Word) (s : State) : (memWrite16 cfg x v s).hl = s.hl := rfl
@[simp] theorem memWrite16_stackPair (cfg : Config) (x v : Word) (s : State) (p : StackPair) : (memWrite16 cfg x v s).stackPair p = s.stackPair p := by cases p <;> rfl
@[simp] theorem memWrite16_flagZ (cfg : Config) (x v : Word) (s : State) : (memWrite16 cfg x v s).flagZ = s.flagZ := rfl
@[simp] theorem memWrite16_flagN (cfg : Config) (x v : Word) (s : State) : (memWrite16 cfg x v s).flagN = s.flagN := rfl
@[simp] theorem memWrite16_flagH (cfg : Config) (x v : Word) (s : State) : (memWrite16 cfg x v s).flagH = s.flagH := rfl
@[simp] theorem memWrite16_flagC (cfg : Config) (x v : Word) (s : State) : (memWrite16 cfg x v s).flagC = s.flagC := rfl
@[simp] theorem memWrite16_cond (cfg : Config) (x v : Word) (s : State) (cc : Cond) : (memWrite16 cfg x v s).cond cc = s.cond cc := by cases cc <;> rfl

/-! ### `push8` -/

@[simp] theorem push8_a (cfg : Config) (v : Byte) (s : State) : (push8 cfg v s).a = s.a := rfl
@[simp] theorem push8_f (cfg : Config) (v : Byte) (s : State) : (push8 cfg v s).f = s.f := rfl
@[simp] theorem push8_b (cfg : Config) (v : Byte) (s : State) : (push8 cfg v s).b = s.b := rfl
@[simp] theorem push8_c (cfg : Config) (v : Byte) (s : State) : (push8 cfg v s).c = s.c := rfl
@[simp] theorem push8_d (cfg : Config) (v : Byte) (s : State) : (push8 cfg v s).d = s.d := rfl
@[simp] theorem push8_e (cfg : Config) (v : Byte) (s : State) : (push8 cfg v s).e = s.e := rfl
@[simp] theorem push8_h (cfg : Config) (v : Byte) (s : State) : (push8 cfg v s).h = s.h := rfl
@[simp] theorem push8_l (cfg : Config) (v : Byte) (s : State) : (push8 cfg v s).l = s.l := rfl
@[simp] theorem push8_pc (cfg : Config) (v : Byte) (s : State) : (push8 cfg v s).pc = s.pc := rfl
@[simp] theorem push8_ime (cfg : Config) (v : Byte) (s : State) : (push8 cfg v s).ime = s.ime := rfl
@[simp] theorem push8_run (cfg : Config) (v : Byte) (s : State) : (push8 cfg v s).run = s.run := rfl
@[simp] theorem push8_cycles (cfg : Config) (v : Byte) (s : State) : (push8 cfg v s).cycles = s.cycles := rfl
@[simp] theorem push8_divAcc (cfg : Config) (v : Byte) (s : State) : (push8 cfg v s).divAcc = s.divAcc := rfl
@[simp] theorem push8_timaAcc (cfg : Config) (v : Byte) (s : State) : (push8 cfg v s).timaAcc = s.timaAcc := rfl
@[simp] theorem push8_lcdAcc (cfg : Config) (v : Byte) (s : State) : (push8 cfg v s).lcdAcc = s.lcdAcc := rfl
@[simp] theorem push8_reg (cfg : Config) (v : Byte) (s : State) (r : Reg8) : (push8 cfg v s).reg r = s.reg r := by cases r <;> rfl
@[simp] theorem push8_hl (cfg : Config) (v : Byte) (s : State) : (push8 cfg v s).hl = s.hl := rfl
@[simp] theorem push8_stackPair (cfg : Config) (v : Byte) (s : State) (p : StackPair) : (push8 cfg v s).stackPair p = s.stackPair p := by cases p <;> rfl
@[simp] theorem push8_flagZ (cfg : Config) (v : Byte) (s : State) : (push8 cfg v s).flagZ = s.flagZ := rfl
@[simp] theorem push8_flagN (cfg : Config) (v : Byte) (s : State) : (push8 cfg v s).flagN = s.flagN := rfl
@[simp] theorem push8_flagH (cfg : Config) (v : Byte) (s : State) : (push8 cfg v s).flagH = s.flagH := rfl
@[simp] theorem push8_flagC (cfg : Config) (v : Byte) (s : State) : (push8 cfg v s).flagC = s.flagC := rfl
@[simp] theorem push8_cond (cfg : Config) (v : Byte) (s : State) (cc : Cond) : (push8 cfg v s).cond cc = s.cond cc := by cases cc <;> rfl

/-! ### `push16` -/

@[simp] theorem push16_a (cfg : Config) (v : Word) (s : State) : (push16 cfg v s).a = s.a := rfl
@[simp] theorem push16_f (cfg : Config) (v : Word) (s : State) : (push16 cfg v s).f = s.f := rfl
@[simp] theorem push16_b (cfg : Config) (v : Word) (s : State) : (push16 cfg v s).b = s.b := rfl
@[simp] theorem push16_c (cfg : Config) (v : Word) (s : State) : (push16 cfg v s).c = s.c := rfl
@[simp] theorem push16_d (cfg : Config) (v : Word) (s : State) : (push16 cfg v s).d = s.d := rfl
@[simp] theorem push16_e (cfg : Config) (v : Word) (s : State) : (push16 cfg v s).e = s.e := rfl
@[simp] theorem push16_h (cfg : Config) (v : Word) (s : State) : (push16 cfg v s).h = s.h := rfl
@[simp] theorem push16_l (cfg : Config) (v : Word) (s : State) : (push16 cfg v s).l = s.l := rfl
@[simp] theorem push16_pc (cfg : Config) (v : Word) (s : State) : (push16 cfg v s).pc = s.pc := rfl
@[simp] theorem push16_ime (cfg : Config) (v : Word) (s : State) : (push16 cfg v s).ime = s.ime := rfl
@[simp] theorem push16_run (cfg : Config) (v : Word) (s : State) : (push16 cfg v s).run = s.run := rfl
@[simp] theorem push16_cycles (cfg : Config) (v : Word) (s : State) : (push16 cfg v s).cycles = s.cycles := rfl
@[simp] theorem push16_divAcc (cfg : Config) (v : Word) (s : State) : (push16 cfg v s).divAcc = s.divAcc := rfl
@[simp] theorem push16_timaAcc (cfg : Config) (v : Word) (s : State) : (push16 cfg v s).timaAcc = s.timaAcc := rfl
@[simp] theorem push16_lcdAcc (cfg : Config) (v : Word) (s : State) : (push16 cfg v s).lcdAcc = s.lcdAcc := rfl
@[simp] theorem push16_reg (cfg : Config) (v : Word) (s : State) (r : Reg8) : (push16 cfg v s).reg r = s.reg r := by cases r <;> rfl
@[simp] theorem push16_hl (cfg : Config) (v : Word) (s : State) : (push16 cfg v s).hl = s.hl := rfl
@[simp] theorem push16_stackPair (cfg : Config) (v : Word) (s : State) (p : StackPair) : (push16 cfg v s).stackPair p = s.stackPair p := by cases p <;> rfl
@[simp] theorem push16_flagZ (cfg : Config) (v : Word) (s : State) : (push16 cfg v s).flagZ = s.flagZ := rfl
@[simp] theorem push16_flagN (cfg : Config) (v : Word) (s : State) : (push16 cfg v s).flagN = s.flagN := rfl
@[simp] theorem push16_flagH (cfg : Config) (v : Word) (s : State) : (push16 cfg v s).flagH = s.flagH := rfl
@[simp] theorem push16_flagC (cfg : Config) (v : Word) (s : State) : (push16 cfg v s).flagC = s.flagC := rfl
@[simp] theorem push16_cond (cfg : Config) (v : Word) (s : State) (cc : Cond) : (push16 cfg v s).cond cc = s.cond cc := by cases cc <;> rfl

/-! ### `dropTop` -/

@[simp] theorem dropTop_a (s : State) : (dropTop s).a = s.a := rfl
@[simp] theorem dropTop_f (s : State) : (dropTop s).f = s.f := rfl
@[simp] theorem dropTop_b (s : State) : (dropTop s).b = s.b := rfl
@[simp] theorem dropTop_c (s : State) : (dropTop s).c = s.c := rfl
@[simp] theorem dropTop_d (s : State) : (dropTop s).d = s.d := rfl
@[simp] theorem dropTop_e (s : State) : (dropTop s).e = s.e := rfl
@[simp] theorem dropTop_h (s : State) : (dropTop s).h = s.h := rfl
@[simp] theorem dropTop_l (s : State) : (dropTop s).l = s.l := rfl
@[simp] theorem dropTop_pc (s : State) : (dropTop s).pc = s.pc := rfl
@[simp] theorem dropTop_ime (s : State) : (dropTop s).ime = s.ime := rfl
@[simp] theorem dropTop_run (s : State) : (dropTop s).run = s.run := rfl
@[simp] theorem dropTop_cycles (s : State) : (dropTop s).cycles = s.cycles := rfl
@[simp] theorem dropTop_mem (s : State) : (dropTop s).mem = s.mem := rfl
@[simp] theorem dropTop_divAcc (s : State) : (dropTop s).divAcc = s.divAcc := rfl
@[simp] theorem dropTop_timaAcc (s : State) : (dropTop s).timaAcc = s.timaAcc := rfl
@[simp] theorem dropTop_lcdAcc (s : State) : (dropTop s).lcdAcc = s.lcdAcc := rfl
@[simp] theorem dropTop_reg (s : State) (r : Reg8) : (dropTop s).reg r = s.reg r := by cases r <;> rfl
@[simp] theorem dropTop_hl (s : State) : (dropTop s).hl = s.hl := rfl
@[simp] theorem dropTop_stackPair (s : State) (p : StackPair) : (dropTop s).stackPair p = s.stackPair p := by cases p <;> rfl
@[simp] theorem dropTop_flagZ (s : State) : (dropTop s).flagZ = s.flagZ := rfl
@[simp] theorem dropTop_flagN (s : State) : (dropTop s).flagN = s.flagN := rfl
@[simp] theorem dropTop_flagH (s : State) : (dropTop s).flagH = s.flagH := rfl
@[simp] theorem dropTop_flagC (s : State) : (dropTop s).flagC = s.flagC := rfl
@[simp] theorem dropTop_cond (s : State) (cc : Cond) : (dropTop s).cond cc = s.cond cc := by cases cc <;> rfl
@[simp] theorem dropTop_rd (s : State) (y : Word) : (dropTop s).rd y = s.rd y := rfl

/-! ### `transfer` -/

@[simp] theorem transfer_a (cost : Nat) (x : Word) (s : State) : (transfer cost x s).a = s.a := rfl
@[simp] theorem transfer_f (cost : Nat) (x : Word) (s : State) : (transfer cost x s).f = s.f := rfl
@[simp] theorem transfer_b (cost : Nat) (x : Word) (s : State) : (transfer cost x s).b = s.b := rfl
@[simp] theorem transfer_c (cost : Nat) (x : Word) (s : State) : (transfer cost x s).c = s.c := rfl
@[simp] theorem transfer_d (cost : Nat) (x : Word) (s : State) : (transfer cost x s).d = s.d := rfl
@[simp] theorem transfer_e (cost : Nat) (x : Word) (s : State) : (transfer cost x s).e = s.e := rfl
@[simp] theorem transfer_h (cost : Nat) (x : Word) (s : State) : (transfer cost x s).h = s.h := rfl
@[simp] theorem transfer_l (cost : Nat) (x : Word) (s : State) : (transfer cost x s).l = s.l := rfl
@[simp] theorem transfer_sp (cost : Nat) (x : Word) (s : State) : (transfer cost x s).sp = s.sp := rfl
@[simp] theorem transfer_ime (cost : Nat) (x : Word) (s : State) : (transfer cost x s).ime = s.ime := rfl
@[simp] theorem transfer_run (cost : Nat) (x : Word) (s : State) : (transfer cost x s).run = s.run := rfl
@[simp] theorem transfer_mem (cost : Nat) (x : Word) (s : State) : (transfer cost x s).mem = s.mem := rfl
@[simp] theorem transfer_divAcc (cost : Nat) (x : Word) (s : State) : (transfer cost x s).divAcc = s.divAcc := rfl
@[simp] theorem transfer_timaAcc (cost : Nat) (x : Word) (s : State) : (transfer cost x s).timaAcc = s.timaAcc := rfl
@[simp] theorem transfer_lcdAcc (cost : Nat) (x : Word) (s : State) : (transfer cost x s).lcdAcc = s.lcdAcc := rfl
@[simp] theorem transfer_reg (cost : Nat) (x : Word) (s : State) (r : Reg8) : (transfer cost x s).reg r = s.reg r := by cases r <;> rfl
@[simp] theorem transfer_pair (cost : Nat) (x : Word) (s : State) (p : Pair) : (transfer cost x s).pair p = s.pair p := by cases p <;> rfl
@[simp] theorem transfer_hl (cost : Nat) (x : Word) (s : State) : (transfer cost x s).hl = s.hl := rfl
@[simp] theorem transfer_stackPair (cost : Nat) (x : Word) (s : State) (p : StackPair) : (transfer cost x s).stackPair p = s.stackPair p := by cases p <;> rfl
@[simp] theorem transfer_flagZ (cost : Nat) (x : Word) (s : State) : (transfer cost x s).flagZ = s.flagZ := rfl
@[simp] theorem transfer_flagN (cost : Nat) (x : Word) (s : State) : (transfer cost x s).flagN = s.flagN := rfl
@[simp] theorem transfer_flagH (cost : Nat) (x : Word) (s : State) : (transfer cost x s).flagH = s.flagH := rfl
@[simp] theorem transfer_flagC (cost : Nat) (x : Word) (s : State) : (transfer cost x s).flagC = s.flagC := rfl
@[simp] theorem transfer_cond (cost : Nat) (x : Word) (s : State) (cc : Cond) : (transfer cost x s).cond cc = s.cond cc := by cases cc <;> rfl
@[simp] theorem transfer_rd (cost : Nat) (x : Word) (s : State) (y : Word) : (transfer cost x s).rd y = s.rd y := rfl

/-! ### `retireWith` -/

@[simp] theorem retireWith_a (len cost : Nat) (s : State) : (retireWith len cost s).a = s.a := rfl
@[simp] theorem retireWith_f (len cost : Nat) (s : State) : (retireWith len cost s).f = s.f := rfl
@[simp] theorem retireWith_b (len cost : Nat) (s : State) : (retireWith len cost s).b = s.b := rfl
@[simp] theorem retireWith_c (len cost : Nat) (s : State) : (retireWith len cost s).c = s.c := rfl
@[simp] theorem retireWith_d (len cost : Nat) (s : State) : (retireWith len cost s).d = s.d := rfl
@[simp] theorem retireWith_e (len cost : Nat) (s : State) : (retireWith len cost s).e = s.e := rfl
@[simp] theorem retireWith_h (len cost : Nat) (s : State) : (retireWith len cost s).h = s.h := rfl
@[simp] theorem retireWith_l (len cost : Nat) (s : State) : (retireWith len cost s).l = s.l := rfl
@[simp] theorem retireWith_sp (len cost : Nat) (s : State) : (retireWith len cost s).sp = s.sp := rfl
@[simp] theorem retireWith_ime (len cost : Nat) (s : State) : (retireWith len cost s).ime = s.ime := rfl
@[simp] theorem retireWith_run (len cost : Nat) (s : State) : (retireWith len cost s).run = s.run := rfl
@[simp] theorem retireWith_mem (len cost : Nat) (s : State) : (retireWith len cost s).mem = s.mem := rfl
@[simp] theorem retireWith_divAcc (len cost : Nat) (s : State) : (retireWith len cost s).divAcc = s.divAcc := rfl
@[simp] theorem retireWith_timaAcc (len cost : Nat) (s : State) : (retireWith len cost s).timaAcc = s.timaAcc := rfl
@[simp] theorem retireWith_lcdAcc (len cost : Nat) (s : State) : (retireWith len cost s).lcdAcc = s.lcdAcc := rfl
@[simp] theorem retireWith_reg (len cost : Nat) (s : State) (r : Reg8) : (retireWith len cost s).reg r = s.reg r := by cases r <;> rfl
@[simp] theorem retireWith_pair (len cost : Nat) (s : State) (p : Pair) : (retireWith len cost s).pair p = s.pair p := by cases p <;> rfl
@[simp] theorem retireWith_hl (len cost : Nat) (s : State) : (retireWith len cost s).hl = s.hl := rfl
@[simp] theorem retireWith_stackPair (len cost : Nat) (s : State) (p : StackPair) : (retireWith len cost s).stackPair p = s.stackPair p := by cases p <;> rfl
@[simp] theorem retireWith_flagZ (len cost : Nat) (s : State) : (retireWith len cost s).flagZ = s.flagZ := rfl
@[simp] theorem retireWith_flagN (len cost : Nat) (s : State) : (retireWith len cost s).flagN = s.flagN := rfl
@[simp] theorem retireWith_flagH (len cost : Nat) (s : State) : (retireWith len cost s).flagH = s.flagH := rfl
@[simp] theorem retireWith_flagC (len cost : Nat) (s : State) : (retireWith len cost s).flagC = s.flagC := rfl
@[simp] theorem retireWith_cond (len cost : Nat) (s : State) (cc : Cond) : (retireWith len cost s).cond cc = s.cond cc := by cases cc <;> rfl
@[simp] theorem retireWith_rd (len cost : Nat) (s : State) (y : Word) : (retireWith len cost s).rd y = s.rd y := rfl

/-! ### The record update of `f` -/

@[simp] theorem withFlags_reg (s : State) (v : Byte) (r : Reg8) : ({ s with f := v } : State).reg r = s.reg r := by cases r <;> rfl
@[simp] theorem withFlags_pair (s : State) (v : Byte) (p : Pair) : ({ s with f := v } : State).pair p = s.pair p := by cases p <;> rfl
@[simp] theorem withFlags_hl (s : State) (v : Byte) : ({ s with f := v } : State).hl = s.hl := rfl
@[simp] theorem withFlags_rd (s : State) (v : Byte) (y : Word) : ({ s with f := v } : State).rd y = s.rd y := rfl

/-! ### The record update of `a` -/

@[simp] theorem withAcc_pair (s : State) (v : Byte) (p : Pair) : ({ s with a := v } : State).pair p = s.pair p := by cases p <;> rfl
@[simp] theorem withAcc_hl (s : State) (v : Byte) : ({ s with a := v } : State).hl = s.hl := rfl
@[simp] theorem withAcc_flagZ (s : State) (v : Byte) : ({ s with a := v } : State).flagZ = s.flagZ := rfl
@[simp] theorem withAcc_flagN (s : State) (v : Byte) : ({ s with a := v } : State).flagN = s.flagN := rfl
@[simp] theorem withAcc_flagH (s : State) (v : Byte) : ({ s with a := v } : State).flagH = s.flagH := rfl
@[simp] theorem withAcc_flagC (s : State) (v : Byte) : ({ s with a := v } : State).flagC = s.flagC := rfl
@[simp] theorem withAcc_cond (s : State) (v : Byte) (cc : Cond) : ({ s with a := v } : State).cond cc = s.cond cc := by cases cc <;> rfl
@[simp] theorem withAcc_rd (s : State) (v : Byte) (y : Word) : ({ s with a := v } : State).rd y = s.rd y := rfl

/-! ### The record update of `a`, `f` -/

@[simp] theorem withAccFlags_pair (s : State) (v w : Byte) (p : Pair) : ({ s with a := v, f := w } : State).pair p = s.pair p := by cases p <;> rfl
@[simp] theorem withAccFlags_hl (s : State) (v w : Byte) : ({ s with a := v, f := w } : State).hl = s.hl := rfl
@[simp] theorem withAccFlags_rd (s : State) (v w : Byte) (y : Word) : ({ s with a := v, f := w } : State).rd y = s.rd y := rfl

/-! ### The record update of `sp` -/

@[simp] theorem withSp_reg (s : State) (v : Word) (r : Reg8) : ({ s with sp := v } : State).reg r = s.reg r := by cases r <;> rfl
@[simp] theorem withSp_hl (s : State) (v : Word) : ({ s with sp := v } : State).hl = s.hl := rfl
@[simp] theorem withSp_stackPair (s : State) (v : Word) (p : StackPair) : ({ s with sp := v } : State).stackPair p = s.stackPair p := by cases p <;> rfl
@[simp] theorem withSp_flagZ (s : State) (v : Word) : ({ s with sp := v } : State).flagZ = s.flagZ := rfl
@[simp] theorem withSp_flagN (s : State) (v : Word) : ({ s with sp := v } : State).flagN = s.flagN := rfl
@[simp] theorem withSp_flagH (s : State) (v : Word) : ({ s with sp := v } : State).flagH = s.flagH := rfl
@[simp] theorem withSp_flagC (s : State) (v : Word) : ({ s with sp := v } : State).flagC = s.flagC := rfl
@[simp] theorem withSp_cond (s : State) (v : Word) (cc : Cond) : ({ s with sp := v } : State).cond cc = s.cond cc := by cases cc <;> rfl
@[simp] theorem withSp_rd (s : State) (v : Word) (y : Word) : ({ s with sp := v } : State).rd y = s.rd y := rfl

/-! ### The record update of `sp`, `f` -/

@[simp] theorem withSpFlags_reg (s : State) (v : Word) (w : Byte) (r : Reg8) : ({ s with sp := v, f := w } : State).reg r = s.reg r := by cases r <;> rfl
@[simp] theorem withSpFlags_hl (s : State) (v : Word) (w : Byte) : ({ s with sp := v, f := w } : State).hl = s.hl := rfl
@[simp] theorem withSpFlags_rd (s : State) (v : Word) (w : Byte) (y : Word) : ({ s with sp := v, f := w } : State).rd y = s.rd y := rfl

/-! ### The record update of `ime` -/

@[simp] theorem withIme_reg (s : State) (v : Bool) (r : Reg8) : ({ s with ime := v } : State).reg r = s.reg r := by cases r <;> rfl
@[simp] theorem withIme_pair (s : State) (v : Bool) (p : Pair) : ({ s with ime := v } : State).pair p = s.pair p := by cases p <;> rfl
@[simp] theorem withIme_hl (s : State) (v : Bool) : ({ s with ime := v } : State).hl = s.hl := rfl
@[simp] theorem withIme_stackPair (s : State) (v : Bool) (p : StackPair) : ({ s with ime := v } : State).stackPair p = s.stackPair p := by cases p <;> rfl
@[simp] theorem withIme_flagZ (s : State) (v : Bool) : ({ s with ime := v } : State).flagZ = s.flagZ := rfl
@[simp] theorem withIme_flagN (s : State) (v : Bool) : ({ s with ime := v } : State).flagN = s.flagN := rfl
@[simp] theorem withIme_flagH (s : State) (v : Bool) : ({ s with ime := v } : State).flagH = s.flagH := rfl
@[simp] theorem withIme_flagC (s : State) (v : Bool) : ({ s with ime := v } : State).flagC = s.flagC := rfl
@[simp] theorem withIme_cond (s : State) (v : Bool) (cc : Cond) : ({ s with ime := v } : State).cond cc = s.cond cc := by cases cc <;> rfl
@[simp] theorem withIme_rd (s : State) (v : Bool) (y : Word) : ({ s with ime := v } : State).rd y = s.rd y := rfl

/-! ### The record update of `run` -/

@[simp] theorem withRun_reg (s : State) (v : RunState) (r : Reg8) : ({ s with run := v } : State).reg r = s.reg r := by cases r <;> rfl
@[simp] theorem withRun_pair (s : State) (v : RunState) (p : Pair) : ({ s with run := v } : State).pair p = s.pair p := by cases p <;> rfl
@[simp] theorem withRun_hl (s : State) (v : RunState) : ({ s with run := v } : State).hl = s.hl := rfl
@[simp] theorem withRun_stackPair (s : State) (v : RunState) (p : StackPair) : ({ s with run := v } : State).stackPair p = s.stackPair p := by cases p <;> rfl
@[simp] theorem withRun_flagZ (s : State) (v : RunState) : ({ s with run := v } : State).flagZ = s.flagZ := rfl
@[simp] theorem withRun_flagN (s : State) (v : RunState) : ({ s with run := v } : State).flagN = s.flagN := rfl
@[simp] theorem withRun_flagH (s : State) (v : RunState) : ({ s with run := v } : State).flagH = s.flagH := rfl
@[simp] theorem withRun_flagC (s : State) (v : RunState) : ({ s with run := v } : State).flagC = s.flagC := rfl
@[simp] theorem withRun_cond (s : State) (v : RunState) (cc : Cond) : ({ s with run := v } : State).cond cc = s.cond cc := by cases cc <;> rfl
@[simp] theorem withRun_rd (s : State) (v : RunState) (y : Word) : ({ s with run := v } : State).rd y = s.rd y := rfl

/-! ### The record update of `pc` -/

@[simp] theorem withPc_reg (s : State) (v : Word) (r : Reg8) : ({ s with pc := v } : State).reg r = s.reg r := by cases r <;> rfl
@[simp] theorem withPc_pair (s : State) (v : Word) (p : Pair) : ({ s with pc := v } : State).pair p = s.pair p := by cases p <;> rfl
@[simp] theorem withPc_hl (s : State) (v : Word) : ({ s with pc := v } : State).hl = s.hl := rfl
@[simp] theorem withPc_stackPair (s : State) (v : Word) (p : StackPair) : ({ s with pc := v } : State).stackPair p = s.stackPair p := by cases p <;> rfl
@[simp] theorem withPc_flagZ (s : State) (v : Word) : ({ s with pc := v } : State).flagZ = s.flagZ := rfl
@[simp] theorem withPc_flagN (s : State) (v : Word) : ({ s with pc := v } : State).flagN = s.flagN := rfl
@[simp] theorem withPc_flagH (s : State) (v : Word) : ({ s with pc := v } : State).flagH = s.flagH := rfl
@[simp] theorem withPc_flagC (s : State) (v : Word) : ({ s with pc := v } : State).flagC = s.flagC := rfl
@[simp] theorem withPc_cond (s : State) (v : Word) (cc : Cond) : ({ s with pc := v } : State).cond cc = s.cond cc := by cases cc <;> rfl
@[simp] theorem withPc_rd (s : State) (v : Word) (y : Word) : ({ s with pc := v } : State).rd y = s.rd y := rfl

/-! ### What `transfer`, `retireWith`, `dropTop` and the pushes do write -/

@[simp] theorem transfer_pc (cost : Nat) (x : Word) (s : State) : (transfer cost x s).pc = x := rfl
@[simp] theorem transfer_cycles (cost : Nat) (x : Word) (s : State) : (transfer cost x s).cycles = s.cycles + cost := rfl
@[simp] theorem retireWith_pc (len cost : Nat) (s : State) : (retireWith len cost s).pc = s.pc + BitVec.ofNat 16 len := rfl
@[simp] theorem retireWith_cycles (len cost : Nat) (s : State) : (retireWith len cost s).cycles = s.cycles + cost := rfl
@[simp] theorem dropTop_sp (s : State) : (dropTop s).sp = s.sp + 2 := rfl
@[simp] theorem push8_sp (cfg : Config) (v : Byte) (s : State) : (push8 cfg v s).sp = s.sp - 1 := rfl
theorem push16_sp_twice (cfg : Config) (v : Word) (s : State) : (push16 cfg v s).sp = s.sp - 1 - 1 := rfl
@[simp] theorem push16_sp (cfg : Config) (v : Word) (s : State) : (push16 cfg v s).sp = s.sp - 2 := by
  rw [push16_sp_twice, BitVec.sub_sub]; rfl

/-! ### `setReg`, `setPair`, `setStackPair` -/

@[simp] theorem setReg_reg (s : State) (r q : Reg8) (v : Byte) : (s.setReg r v).reg q = if q = r then v else s.reg q := by
  cases r <;> cases q <;> rfl
@[simp] theorem setReg_f (s : State) (r : Reg8) (v : Byte) : (s.setReg r v).f = s.f := by cases r <;> rfl
@[simp] theorem setReg_sp (s : State) (r : Reg8) (v : Byte) : (s.setReg r v).sp = s.sp := by cases r <;> rfl
@[simp] theorem setReg_pc (s : State) (r : Reg8) (v : Byte) : (s.setReg r v).pc = s.pc := by cases r <;> rfl
@[simp] theorem setReg_ime (s : State) (r : Reg8) (v : Byte) : (s.setReg r v).ime = s.ime := by cases r <;> rfl
@[simp] theorem setReg_run (s : State) (r : Reg8) (v : Byte) : (s.setReg r v).run = s.run := by cases r <;> rfl
@[simp] theorem setReg_cycles (s : State) (r : Reg8) (v : Byte) : (s.setReg r v).cycles = s.cycles := by cases r <;> rfl
@[simp] theorem setReg_mem (s : State) (r : Reg8) (v : Byte) : (s.setReg r v).mem = s.mem := by cases r <;> rfl
@[simp] theorem setReg_divAcc (s : State) (r : Reg8) (v : Byte) : (s.setReg r v).divAcc = s.divAcc := by cases r <;> rfl
@[simp] theorem setReg_timaAcc (s : State) (r : Reg8) (v : Byte) : (s.setReg r v).timaAcc = s.timaAcc := by cases r <;> rfl
@[simp] theorem setReg_lcdAcc (s : State) (r : Reg8) (v : Byte) : (s.setReg r v).lcdAcc = s.lcdAcc := by cases r <;> rfl
@[simp] theorem setReg_rd (s : State) (r : Reg8) (v : Byte) (y : Word) : (s.setReg r v).rd y = s.rd y := by cases r <;> rfl
@[simp] theorem setReg_flagZ (s : State) (r : Reg8) (v : Byte) : (s.setReg r v).flagZ = s.flagZ := by cases r <;> rfl
@[simp] theorem setReg_flagN (s : State) (r : Reg8) (v : Byte) : (s.setReg r v).flagN = s.flagN := by cases r <;> rfl
@[simp] theorem setReg_flagH (s : State) (r : Reg8) (v : Byte) : (s.setReg r v).flagH = s.flagH := by cases r <;> rfl
@[simp] theorem setReg_flagC (s : State) (r : Reg8) (v : Byte) : (s.setReg r v).flagC = s.flagC := by cases r <;> rfl

@[simp] theorem setPair_f (s : State) (p : Pair) (v : Word) : (s.setPair p v).f = s.f := by cases p <;> rfl
@[simp] theorem setPair_pc (s : State) (p : Pair) (v : Word) : (s.setPair p v).pc = s.pc := by cases p <;> rfl
@[simp] theorem setPair_ime (s : State) (p : Pair) (v : Word) : (s.setPair p v).ime = s.ime := by cases p <;> rfl
@[simp] theorem setPair_run (s : State) (p : Pair) (v : Word) : (s.setPair p v).run = s.run := by cases p <;> rfl
@[simp] theorem setPair_cycles (s : State) (p : Pair) (v : Word) : (s.setPair p v).cycles = s.cycles := by cases p <;> rfl
@[simp] theorem setPair_mem (s : State) (p : Pair) (v : Word) : (s.setPair p v).mem = s.mem := by cases p <;> rfl
@[simp] theorem setPair_divAcc (s : State) (p : Pair) (v : Word) : (s.setPair p v).divAcc = s.divAcc := by cases p <;> rfl
@[simp] theorem setPair_timaAcc (s : State) (p : Pair) (v : Word) : (s.setPair p v).timaAcc = s.timaAcc := by cases p <;> rfl
@[simp] theorem setPair_lcdAcc (s : State) (p : Pair) (v : Word) : (s.setPair p v).lcdAcc = s.lcdAcc := by cases p <;> rfl
@[simp] theorem setPair_rd (s : State) (p : Pair) (v : Word) (y : Word) : (s.setPair p v).rd y = s.rd y := by cases p <;> rfl
@[simp] theorem setPair_flagZ (s : State) (p : Pair) (v : Word) : (s.setPair p v).flagZ = s.flagZ := by cases p <;> rfl
@[simp] theorem setPair_flagN (s : State) (p : Pair) (v : Word) : (s.setPair p v).flagN = s.flagN := by cases p <;> rfl
@[simp] theorem setPair_flagH (s : State) (p : Pair) (v : Word) : (s.setPair p v).flagH = s.flagH := by cases p <;> rfl
@[simp] theorem setPair_flagC (s : State) (p : Pair) (v : Word) : (s.setPair p v).flagC = s.flagC := by cases p <;> rfl

@[simp] theorem setStackPair_sp (s : State) (p : StackPair) (v : Word) : (s.setStackPair p v).sp = s.sp := by cases p <;> rfl
@[simp] theorem setStackPair_pc (s : State) (p : StackPair) (v : Word) : (s.setStackPair p v).pc = s.pc := by cases p <;> rfl
@[simp] theorem setStackPair_ime (s : State) (p : StackPair) (v : Word) : (s.setStackPair p v).ime = s.ime := by cases p <;> rfl
@[simp] theorem setStackPair_run (s : State) (p : StackPair) (v : Word) : (s.setStackPair p v).run = s.run := by cases p <;> rfl
@[simp] theorem setStackPair_cycles (s : State) (p : StackPair) (v : Word) : (s.setStackPair p v).cycles = s.cycles := by cases p <;> rfl
@[simp] theorem setStackPair_mem (s : State) (p : StackPair) (v : Word) : (s.setStackPair p v).mem = s.mem := by cases p <;> rfl
@[simp] theorem setStackPair_divAcc (s : State) (p : StackPair) (v : Word) : (s.setStackPair p v).divAcc = s.divAcc := by cases p <;> rfl
@[simp] theorem setStackPair_timaAcc (s : State) (p : StackPair) (v : Word) : (s.setStackPair p v).timaAcc = s.timaAcc := by cases p <;> rfl
@[simp] theorem setStackPair_lcdAcc (s : State) (p : StackPair) (v : Word) : (s.setStackPair p v).lcdAcc = s.lcdAcc := by cases p <;> rfl
@[simp] theorem setStackPair_rd (s : State) (p : StackPair) (v : Word) (y : Word) : (s.setStackPair p v).rd y = s.rd y := by cases p <;> rfl

@[simp] theorem setPair_sp (s : State) (p : Pair) (v : Word) : (s.setPair p v).sp = if p = .sp then v else s.sp := by
  cases p <;> rfl
@[simp] theorem setStackPair_f (s : State) (p : StackPair) (v : Word) :
    (s.setStackPair p v).f = if p = .af then lo8 v &&& 0xF0 else s.f := by cases p <;> rfl

/-- A byte pair is its two halves. -/
@[simp] theorem cat16_hi8_lo8 (v : Word) : cat16 (hi8 v) (lo8 v) = v := by
  apply BitVec.eq_of_getLsbD_eq
  intro i hi
  simp only [cat16, hi8, lo8, BitVec.getLsbD_append, BitVec.getLsbD_extractLsb']
  by_cases h : i < 8
  · simp [h]
  · simp [h, show i - 8 < 8 by omega, show 8 + (i - 8) = i by omega]

@[simp] theorem hi8_cat16 (x y : Byte) : hi8 (cat16 x y) = x := by
  apply BitVec.eq_of_getLsbD_eq
  intro i hi
  simp only [cat16, hi8, BitVec.getLsbD_extractLsb', BitVec.getLsbD_append]
  simp [hi]

@[simp] theorem lo8_cat16 (x y : Byte) : lo8 (cat16 x y) = y := by
  apply BitVec.eq_of_getLsbD_eq
  intro i hi
  simp only [cat16, lo8, BitVec.getLsbD_extractLsb', BitVec.getLsbD_append]
  simp [hi]

theorem toNat_hi8 (v : Word) : (hi8 v).toNat = v.toNat / 256 := by
  have := v.isLt
  simp only [hi8, BitVec.extractLsb'_toNat, Nat.shiftRight_eq_div_pow]
  omega

theorem toNat_lo8 (v : Word) : (lo8 v).toNat = v.toNat % 256 := by
  simp [lo8, BitVec.extractLsb'_toNat]

theorem toNat_cat16 (x y : Byte) : (cat16 x y).toNat = 256 * x.toNat + y.toNat := by
  have := y.isLt
  have h := toNat_hi8 (cat16 x y)
  have h' := toNat_lo8 (cat16 x y)
  simp only [hi8_cat16, lo8_cat16] at h h'
  omega

/-- What was put into a pair is what it holds. -/
@[simp] theorem setPair_pair_self (s : State) (p : Pair) (v : Word) : (s.setPair p v).pair p = v := by
  cases p <;> simp [State.setPair, State.pair]

@[simp] theorem setPair_hl_hl (s : State) (v : Word) : (s.setPair .hl v).hl = v := setPair_pair_self s .hl v

end Sys2Proof.Machine
end

