-- ==== Sys2Proof/Laws/Ops.lean ====
section
/-! SUPPORT. What the shared operations of Machine/Ops.lean do to memory, said once: what each address reads as after a store, a push
or an interrupt entry, what a pop returns after a push, and that each keeps the canonical form. -/
namespace Sys2Proof.Machine

/-! ### Stores -/

/-- A raw store (R65). -/
@[simp] theorem poke_rd (s : State) (x y : Word) (v : Byte) : (s.poke x v).rd y = if y = x then v else s.rd y := by
  simp [State.rd, State.poke, BitVec.toNat_inj]

/-- The engine's store (R63, R64). -/
@[simp] theorem memWrite_rd (cfg : Config) (x y : Word) (v : Byte) (s : State) :
    (memWrite cfg x v s).rd y = if y = x then (if x = cfg.addrDiv then 0 else v) else s.rd y := by
  simp [memWrite]

theorem poke_wf {s : State} (x : Word) (v : Byte) (h : s.mem.wf = true) : (s.poke x v).mem.wf = true :=
  Memory.wf_write v h x.isLt

theorem memWrite_wf (cfg : Config) {s : State} (x : Word) (v : Byte) (h : s.mem.wf = true) : (memWrite cfg x v s).mem.wf = true :=
  poke_wf x _ h

/-- Two addresses next to each other are different ones. -/
theorem succ_ne_self (x : Word) : x + 1 ≠ x := by
  bv_omega

/-- A 16-bit store (R66): the low byte at the address, the high byte after it. -/
theorem memWrite16_rd (cfg : Config) (x v y : Word) (s : State) :
    (memWrite16 cfg x v s).rd y =
      if y = x + 1 then (if x + 1 = cfg.addrDiv then 0 else hi8 v)
      else if y = x then (if x = cfg.addrDiv then 0 else lo8 v) else s.rd y := by
  simp [memWrite16]

theorem memWrite16_wf (cfg : Config) {s : State} (x v : Word) (h : s.mem.wf = true) : (memWrite16 cfg x v s).mem.wf = true :=
  memWrite_wf cfg _ _ (memWrite_wf cfg _ _ h)

/-! ### The stack -/

theorem push8_rd (cfg : Config) (v : Byte) (s : State) (y : Word) :
    (push8 cfg v s).rd y = if y = s.sp - 1 then (if s.sp - 1 = cfg.addrDiv then 0 else v) else s.rd y := by
  rw [push8, memWrite_rd]; simp

theorem sub_one_sub_one (x : Word) : x - 1 - 1 = x - 2 := by rw [BitVec.sub_sub]; rfl

theorem sub_two_ne_sub_one (x : Word) : x - 2 ≠ x - 1 := by
  bv_omega

/-- A push (R68): the high byte one below SP, the low byte two below. -/
theorem push16_rd (cfg : Config) (v y : Word) (s : State) :
    (push16 cfg v s).rd y =
      if y = s.sp - 2 then (if s.sp - 2 = cfg.addrDiv then 0 else lo8 v)
      else if y = s.sp - 1 then (if s.sp - 1 = cfg.addrDiv then 0 else hi8 v) else s.rd y := by
  rw [push16, push8_rd, push8_sp, sub_one_sub_one, push8_rd]

theorem push16_wf (cfg : Config) {s : State} (v : Word) (h : s.mem.wf = true) : (push16 cfg v s).mem.wf = true :=
  memWrite_wf cfg _ _ (memWrite_wf cfg _ _ h)

theorem sub_two_add_one (x : Word) : x - 2 + 1 = x - 1 := by
  bv_omega

theorem sub_two_add_two (x : Word) : x - 2 + 2 = x := by
  bv_omega

/-- The word on top of the stack after a push: the one pushed, a byte that fell on the divider being 0. -/
theorem stackTop_push16 (cfg : Config) (v : Word) (s : State) :
    stackTop (push16 cfg v s) =
      cat16 (if s.sp - 1 = cfg.addrDiv then 0 else hi8 v) (if s.sp - 2 = cfg.addrDiv then 0 else lo8 v) := by
  have h : ¬ s.sp - 1 = s.sp - 2 := Ne.symm (sub_two_ne_sub_one s.sp)
  simp only [stackTop, push16_sp, sub_two_add_one, push16_rd, h, if_false, if_true]

/-- The word on top depends on SP and the two bytes there alone. -/
theorem stackTop_congr {s t : State} (hsp : t.sp = s.sp) (h0 : t.rd s.sp = s.rd s.sp) (h1 : t.rd (s.sp + 1) = s.rd (s.sp + 1)) :
    stackTop t = stackTop s := by
  rw [stackTop, stackTop, hsp, h0, h1]

/-! ### Taking an interrupt -/

/-- What interrupt entry does to everything but memory (R283, R284). -/
theorem enterInterrupt_frame (cfg : Config) (src : Source) (s : State) :
    enterInterrupt cfg src s =
      { s with
        mem := (enterInterrupt cfg src s).mem
        ime := false
        pc := cfg.irqVector src
        sp := if cfg.irqPushPc then s.sp - 2 else s.sp } := by
  unfold enterInterrupt
  cases cfg.irqPushPc
  · rfl
  · simp only [if_true]
    rw [← push16_sp cfg s.pc s]
    rfl

/-- What every address reads as after interrupt entry. -/
theorem enterInterrupt_rd (cfg : Config) (src : Source) (s : State) (y : Word) :
    (enterInterrupt cfg src s).rd y =
      if cfg.irqPushPc = true ∧ y = s.sp - 2 then (if s.sp - 2 = cfg.addrDiv then 0 else lo8 s.pc)
      else if cfg.irqPushPc = true ∧ y = s.sp - 1 then (if s.sp - 1 = cfg.addrDiv then 0 else hi8 s.pc)
      else if y = cfg.addrIf then clearBit8 (s.rd cfg.addrIf) (cfg.irqBit src) else s.rd y := by
  have hm (t : State) : ({ t with pc := cfg.irqVector src } : State).rd y = t.rd y := rfl
  have hi (t : State) (x : Word) : ({ t with ime := false } : State).rd x = t.rd x := rfl
  rw [enterInterrupt, hm]
  cases cfg.irqPushPc
  · rw [if_neg (by decide), hi, poke_rd]; simp
  · rw [if_pos rfl, push16_rd, hi, poke_rd]; simp only [true_and, poke_sp, poke_pc]; congr

theorem enterInterrupt_wf (cfg : Config) (src : Source) {s : State} (h : s.mem.wf = true) :
    (enterInterrupt cfg src s).mem.wf = true := by
  have h' := poke_wf cfg.addrIf (clearBit8 (s.rd cfg.addrIf) (cfg.irqBit src)) h
  unfold enterInterrupt
  generalize s.poke cfg.addrIf (clearBit8 (s.rd cfg.addrIf) (cfg.irqBit src)) = t at h'
  have hp := push16_wf cfg (s := { t with ime := false }) t.pc h'
  cases cfg.irqPushPc
  · exact h'
  · exact hp

end Sys2Proof.Machine
end

