-- ==== Sys2Proof/Laws/Catalog.lean ====
section
/-! SUPPORT. The instruction set by operands. `catalog_cases` says that every instruction is an entry of one of the decoder's catalog
functions or one of the instructions that stand alone, so a fact about all 512 constructors takes one case a shape; and `exec_eq_…` says what
each shape executes to, so that no later proof unfolds `exec`, a meaning or the cycle table. -/
namespace Sys2Proof.Machine

/-- Case analysis on an instruction by the operation and operands it names. -/
theorem catalog_cases {motive : Instr → Prop}
    (loadInstr : ∀ (x : Operand8) (y : Operand8), motive (loadInstr x y))
    (aluInstr : ∀ (o : AluOp) (x : Operand8), motive (aluInstr o x))
    (aluImmInstr : ∀ (n : Byte) (o : AluOp), motive (aluImmInstr n o))
    (incInstr : ∀ (x : Operand8), motive (incInstr x))
    (decInstr : ∀ (x : Operand8), motive (decInstr x))
    (loadImmInstr : ∀ (n : Byte) (x : Operand8), motive (loadImmInstr n x))
    (loadPairInstr : ∀ (nn : Word) (p : Pair), motive (loadPairInstr nn p))
    (addHlInstr : ∀ (p : Pair), motive (addHlInstr p))
    (incPairInstr : ∀ (p : Pair), motive (incPairInstr p))
    (decPairInstr : ∀ (p : Pair), motive (decPairInstr p))
    (pushInstr : ∀ (p : StackPair), motive (pushInstr p))
    (popInstr : ∀ (p : StackPair), motive (popInstr p))
    (jumpIfInstr : ∀ (nn : Word) (cc : Cond), motive (jumpIfInstr nn cc))
    (callIfInstr : ∀ (nn : Word) (cc : Cond), motive (callIfInstr nn cc))
    (retIfInstr : ∀ (cc : Cond), motive (retIfInstr cc))
    (jumpRelIfInstr : ∀ (e : Byte) (cc : Cond), motive (jumpRelIfInstr e cc))
    (rstInstr : ∀ (k : Code3), motive (rstInstr k))
    (rotInstr : ∀ (o : RotOp) (x : Operand8), motive (rotInstr o x))
    (bitInstr : ∀ (k : Code3) (x : Operand8), motive (bitInstr k x))
    (resInstr : ∀ (k : Code3) (x : Operand8), motive (resInstr k x))
    (setInstr : ∀ (k : Code3) (x : Operand8), motive (setInstr k x))
    (nop : motive .nop)
    (ld_atBC_A : motive .ld_atBC_A)
    (rlca : motive .rlca)
    (ld_atnn_SP : ∀ (nn : Word), motive (.ld_atnn_SP nn))
    (ld_A_atBC : motive .ld_A_atBC)
    (rrca : motive .rrca)
    (stop : ∀ (pad : Byte), motive (.stop pad))
    (ld_atDE_A : motive .ld_atDE_A)
    (rla : motive .rla)
    (jr_e : ∀ (e : Byte), motive (.jr_e e))
    (ld_A_atDE : motive .ld_A_atDE)
    (rra : motive .rra)
    (ld_atHLinc_A : motive .ld_atHLinc_A)
    (daa : motive .daa)
    (ld_A_atHLinc : motive .ld_A_atHLinc)
    (cpl : motive .cpl)
    (ld_atHLdec_A : motive .ld_atHLdec_A)
    (scf : motive .scf)
    (ld_A_atHLdec : motive .ld_A_atHLdec)
    (ccf : motive .ccf)
    (jp_nn : ∀ (nn : Word), motive (.jp_nn nn))
    (ret : motive .ret)
    (prefix_CB : ∀ (op2 : Byte), motive (.prefix_CB op2))
    (call_nn : ∀ (nn : Word), motive (.call_nn nn))
    (invalid_D3 : motive .invalid_D3)
    (reti : motive .reti)
    (invalid_DB : motive .invalid_DB)
    (invalid_DD : motive .invalid_DD)
    (ldh_atn_A : ∀ (n : Byte), motive (.ldh_atn_A n))
    (ld_atC_A : motive .ld_atC_A)
    (invalid_E3 : motive .invalid_E3)
    (invalid_E4 : motive .invalid_E4)
    (add_SP_e : ∀ (e : Byte), motive (.add_SP_e e))
    (jp_HL : motive .jp_HL)
    (ld_atnn_A : ∀ (nn : Word), motive (.ld_atnn_A nn))
    (invalid_EB : motive .invalid_EB)
    (invalid_EC : motive .invalid_EC)
    (invalid_ED : motive .invalid_ED)
    (ldh_A_atn : ∀ (n : Byte), motive (.ldh_A_atn n))
    (ld_A_atC : motive .ld_A_atC)
    (di : motive .di)
    (invalid_F4 : motive .invalid_F4)
    (ld_HL_SPe : ∀ (e : Byte), motive (.ld_HL_SPe e))
    (ld_SP_HL : motive .ld_SP_HL)
    (ld_A_atnn : ∀ (nn : Word), motive (.ld_A_atnn nn))
    (ei : motive .ei)
    (invalid_FC : motive .invalid_FC)
    (invalid_FD : motive .invalid_FD)
    (i : Instr) : motive i :=
  match i with
  | .ld_BC_nn nn => loadPairInstr nn .bc
  | .ld_B_n n => loadImmInstr n (.reg .b)
  | .ld_atnn_SP nn => ld_atnn_SP nn
  | .ld_C_n n => loadImmInstr n (.reg .c)
  | .stop pad => stop pad
  | .ld_DE_nn nn => loadPairInstr nn .de
  | .ld_D_n n => loadImmInstr n (.reg .d)
  | .jr_e e => jr_e e
  | .ld_E_n n => loadImmInstr n (.reg .e)
  | .jr_NZ_e e => jumpRelIfInstr e .nz
  | .ld_HL_nn nn => loadPairInstr nn .hl
  | .ld_H_n n => loadImmInstr n (.reg .h)
  | .jr_Z_e e => jumpRelIfInstr e .z
  | .ld_L_n n => loadImmInstr n (.reg .l)
  | .jr_NC_e e => jumpRelIfInstr e .nc
  | .ld_SP_nn nn => loadPairInstr nn .sp
  | .ld_atHL_n n => loadImmInstr n .atHL
  | .jr_C_e e => jumpRelIfInstr e .c
  | .ld_A_n n => loadImmInstr n (.reg .a)
  | .jp_NZ_nn nn => jumpIfInstr nn .nz
  | .jp_nn nn => jp_nn nn
  | .call_NZ_nn nn => callIfInstr nn .nz
  | .add_A_n n => aluImmInstr n .add
  | .jp_Z_nn nn => jumpIfInstr nn .z
  | .prefix_CB op2 => prefix_CB op2
  | .call_Z_nn nn => callIfInstr nn .z
  | .call_nn nn => call_nn nn
  | .adc_A_n n => aluImmInstr n .adc
  | .jp_NC_nn nn => jumpIfInstr nn .nc
  | .call_NC_nn nn => callIfInstr nn .nc
  | .sub_n n => aluImmInstr n .sub
  | .jp_C_nn nn => jumpIfInstr nn .c
  | .call_C_nn nn => callIfInstr nn .c
  | .sbc_A_n n => aluImmInstr n .sbc
  | .ldh_atn_A n => ldh_atn_A n
  | .and_n n => aluImmInstr n .and
  | .add_SP_e e => add_SP_e e
  | .ld_atnn_A nn => ld_atnn_A nn
  | .xor_n n => aluImmInstr n .xor
  | .ldh_A_atn n => ldh_A_atn n
  | .or_n n => aluImmInstr n .or
  | .ld_HL_SPe e => ld_HL_SPe e
  | .ld_A_atnn nn => ld_A_atnn nn
  | .cp_n n => aluImmInstr n .cp
  | .nop => nop
  | .ld_atBC_A => ld_atBC_A
  | .inc_BC => incPairInstr .bc
  | .inc_B => incInstr (.reg .b)
  | .dec_B => decInstr (.reg .b)
  | .rlca => rlca
  | .add_HL_BC => addHlInstr .bc
  | .ld_A_atBC => ld_A_atBC
  | .dec_BC => decPairInstr .bc
  | .inc_C => incInstr (.reg .c)
  | .dec_C => decInstr (.reg .c)
  | .rrca => rrca
  | .ld_atDE_A => ld_atDE_A
  | .inc_DE => incPairInstr .de
  | .inc_D => incInstr (.reg .d)
  | .dec_D => decInstr (.reg .d)
  | .rla => rla
  | .add_HL_DE => addHlInstr .de
  | .ld_A_atDE => ld_A_atDE
  | .dec_DE => decPairInstr .de
  | .inc_E => incInstr (.reg .e)
  | .dec_E => decInstr (.reg .e)
  | .rra => rra
  | .ld_atHLinc_A => ld_atHLinc_A
  | .inc_HL => incPairInstr .hl
  | .inc_H => incInstr (.reg .h)
  | .dec_H => decInstr (.reg .h)
  | .daa => daa
  | .add_HL_HL => addHlInstr .hl
  | .ld_A_atHLinc => ld_A_atHLinc
  | .dec_HL => decPairInstr .hl
  | .inc_L => incInstr (.reg .l)
  | .dec_L => decInstr (.reg .l)
  | .cpl => cpl
  | .ld_atHLdec_A => ld_atHLdec_A
  | .inc_SP => incPairInstr .sp
  | .inc_atHL => incInstr .atHL
  | .dec_atHL => decInstr .atHL
  | .scf => scf
  | .add_HL_SP => addHlInstr .sp
  | .ld_A_atHLdec => ld_A_atHLdec
  | .dec_SP => decPairInstr .sp
  | .inc_A => incInstr (.reg .a)
  | .dec_A => decInstr (.reg .a)
  | .ccf => ccf
  | .ld_B_B => loadInstr (.reg .b) (.reg .b)
  | .ld_B_C => loadInstr (.reg .b) (.reg .c)
  | .ld_B_D => loadInstr (.reg .b) (.reg .d)
  | .ld_B_E => loadInstr (.reg .b) (.reg .e)
  | .ld_B_H => loadInstr (.reg .b) (.reg .h)
  | .ld_B_L => loadInstr (.reg .b) (.reg .l)
  | .ld_B_atHL => loadInstr (.reg .b) .atHL
  | .ld_B_A => loadInstr (.reg .b) (.reg .a)
  | .ld_C_B => loadInstr (.reg .c) (.reg .b)
  | .ld_C_C => loadInstr (.reg .c) (.reg .c)
  | .ld_C_D => loadInstr (.reg .c) (.reg .d)
  | .ld_C_E => loadInstr (.reg .c) (.reg .e)
  | .ld_C_H => loadInstr (.reg .c) (.reg .h)
  | .ld_C_L => loadInstr (.reg .c) (.reg .l)
  | .ld_C_atHL => loadInstr (.reg .c) .atHL
  | .ld_C_A => loadInstr (.reg .c) (.reg .a)
  | .ld_D_B => loadInstr (.reg .d) (.reg .b)
  | .ld_D_C => loadInstr (.reg .d) (.reg .c)
  | .ld_D_D => loadInstr (.reg .d) (.reg .d)
  | .ld_D_E => loadInstr (.reg .d) (.reg .e)
  | .ld_D_H => loadInstr (.reg .d) (.reg .h)
  | .ld_D_L => loadInstr (.reg .d) (.reg .l)
  | .ld_D_atHL => loadInstr (.reg .d) .atHL
  | .ld_D_A => loadInstr (.reg .d) (.reg .a)
  | .ld_E_B => loadInstr (.reg .e) (.reg .b)
  | .ld_E_C => loadInstr (.reg .e) (.reg .c)
  | .ld_E_D => loadInstr (.reg .e) (.reg .d)
  | .ld_E_E => loadInstr (.reg .e) (.reg .e)
  | .ld_E_H => loadInstr (.reg .e) (.reg .h)
  | .ld_E_L => loadInstr (.reg .e) (.reg .l)
  | .ld_E_atHL => loadInstr (.reg .e) .atHL
  | .ld_E_A => loadInstr (.reg .e) (.reg .a)
  | .ld_H_B => loadInstr (.reg .h) (.reg .b)
  | .ld_H_C => loadInstr (.reg .h) (.reg .c)
  | .ld_H_D => loadInstr (.reg .h) (.reg .d)
  | .ld_H_E => loadInstr (.reg .h) (.reg .e)
  | .ld_H_H => loadInstr (.reg .h) (.reg .h)
  | .ld_H_L => loadInstr (.reg .h) (.reg .l)
  | .ld_H_atHL => loadInstr (.reg .h) .atHL
  | .ld_H_A => loadInstr (.reg .h) (.reg .a)
  | .ld_L_B => loadInstr (.reg .l) (.reg .b)
  | .ld_L_C => loadInstr (.reg .l) (.reg .c)
  | .ld_L_D => loadInstr (.reg .l) (.reg .d)
  | .ld_L_E => loadInstr (.reg .l) (.reg .e)
  | .ld_L_H => loadInstr (.reg .l) (.reg .h)
  | .ld_L_L => loadInstr (.reg .l) (.reg .l)
  | .ld_L_atHL => loadInstr (.reg .l) .atHL
  | .ld_L_A => loadInstr (.reg .l) (.reg .a)
  | .ld_atHL_B => loadInstr .atHL (.reg .b)
  | .ld_atHL_C => loadInstr .atHL (.reg .c)
  | .ld_atHL_D => loadInstr .atHL (.reg .d)
  | .ld_atHL_E => loadInstr .atHL (.reg .e)
  | .ld_atHL_H => loadInstr .atHL (.reg .h)
  | .ld_atHL_L => loadInstr .atHL (.reg .l)
  | .halt => loadInstr .atHL .atHL
  | .ld_atHL_A => loadInstr .atHL (.reg .a)
  | .ld_A_B => loadInstr (.reg .a) (.reg .b)
  | .ld_A_C => loadInstr (.reg .a) (.reg .c)
  | .ld_A_D => loadInstr (.reg .a) (.reg .d)
  | .ld_A_E => loadInstr (.reg .a) (.reg .e)
  | .ld_A_H => loadInstr (.reg .a) (.reg .h)
  | .ld_A_L => loadInstr (.reg .a) (.reg .l)
  | .ld_A_atHL => loadInstr (.reg .a) .atHL
  | .ld_A_A => loadInstr (.reg .a) (.reg .a)
  | .add_A_B => aluInstr .add (.reg .b)
  | .add_A_C => aluInstr .add (.reg .c)
  | .add_A_D => aluInstr .add (.reg .d)
  | .add_A_E => aluInstr .add (.reg .e)
  | .add_A_H => aluInstr .add (.reg .h)
  | .add_A_L => aluInstr .add (.reg .l)
  | .add_A_atHL => aluInstr .add .atHL
  | .add_A_A => aluInstr .add (.reg .a)
  | .adc_A_B => aluInstr .adc (.reg .b)
  | .adc_A_C => aluInstr .adc (.reg .c)
  | .adc_A_D => aluInstr .adc (.reg .d)
  | .adc_A_E => aluInstr .adc (.reg .e)
  | .adc_A_H => aluInstr .adc (.reg .h)
  | .adc_A_L => aluInstr .adc (.reg .l)
  | .adc_A_atHL => aluInstr .adc .atHL
  | .adc_A_A => aluInstr .adc (.reg .a)
  | .sub_B => aluInstr .sub (.reg .b)
  | .sub_C => aluInstr .sub (.reg .c)
  | .sub_D => aluInstr .sub (.reg .d)
  | .sub_E => aluInstr .sub (.reg .e)
  | .sub_H => aluInstr .sub (.reg .h)
  | .sub_L => aluInstr .sub (.reg .l)
  | .sub_atHL => aluInstr .sub .atHL
  | .sub_A => aluInstr .sub (.reg .a)
  | .sbc_A_B => aluInstr .sbc (.reg .b)
  | .sbc_A_C => aluInstr .sbc (.reg .c)
  | .sbc_A_D => aluInstr .sbc (.reg .d)
  | .sbc_A_E => aluInstr .sbc (.reg .e)
  | .sbc_A_H => aluInstr .sbc (.reg .h)
  | .sbc_A_L => aluInstr .sbc (.reg .l)
  | .sbc_A_atHL => aluInstr .sbc .atHL
  | .sbc_A_A => aluInstr .sbc (.reg .a)
  | .and_B => aluInstr .and (.reg .b)
  | .and_C => aluInstr .and (.reg .c)
  | .and_D => aluInstr .and (.reg .d)
  | .and_E => aluInstr .and (.reg .e)
  | .and_H => aluInstr .and (.reg .h)
  | .and_L => aluInstr .and (.reg .l)
  | .and_atHL => aluInstr .and .atHL
  | .and_A => aluInstr .and (.reg .a)
  | .xor_B => aluInstr .xor (.reg .b)
  | .xor_C => aluInstr .xor (.reg .c)
  | .xor_D => aluInstr .xor (.reg .d)
  | .xor_E => aluInstr .xor (.reg .e)
  | .xor_H => aluInstr .xor (.reg .h)
  | .xor_L => aluInstr .xor (.reg .l)
  | .xor_atHL => aluInstr .xor .atHL
  | .xor_A => aluInstr .xor (.reg .a)
  | .or_B => aluInstr .or (.reg .b)
  | .or_C => aluInstr .or (.reg .c)
  | .or_D => aluInstr .or (.reg .d)
  | .or_E => aluInstr .or (.reg .e)
  | .or_H => aluInstr .or (.reg .h)
  | .or_L => aluInstr .or (.reg .l)
  | .or_atHL => aluInstr .or .atHL
  | .or_A => aluInstr .or (.reg .a)
  | .cp_B => aluInstr .cp (.reg .b)
  | .cp_C => aluInstr .cp (.reg .c)
  | .cp_D => aluInstr .cp (.reg .d)
  | .cp_E => aluInstr .cp (.reg .e)
  | .cp_H => aluInstr .cp (.reg .h)
  | .cp_L => aluInstr .cp (.reg .l)
  | .cp_atHL => aluInstr .cp .atHL
  | .cp_A => aluInstr .cp (.reg .a)
  | .ret_NZ => retIfInstr .nz
  | .pop_BC => popInstr .bc
  | .push_BC => pushInstr .bc
  | .rst_00 => rstInstr .k0
  | .ret_Z => retIfInstr .z
  | .ret => ret
  | .rst_08 => rstInstr .k1
  | .ret_NC => retIfInstr .nc
  | .pop_DE => popInstr .de
  | .invalid_D3 => invalid_D3
  | .push_DE => pushInstr .de
  | .rst_10 => rstInstr .k2
  | .ret_C => retIfInstr .c
  | .reti => reti
  | .invalid_DB => invalid_DB
  | .invalid_DD => invalid_DD
  | .rst_18 => rstInstr .k3
  | .pop_HL => popInstr .hl
  | .ld_atC_A => ld_atC_A
  | .invalid_E3 => invalid_E3
  | .invalid_E4 => invalid_E4
  | .push_HL => pushInstr .hl
  | .rst_20 => rstInstr .k4
  | .jp_HL => jp_HL
  | .invalid_EB => invalid_EB
  | .invalid_EC => invalid_EC
  | .invalid_ED => invalid_ED
  | .rst_28 => rstInstr .k5
  | .pop_AF => popInstr .af
  | .ld_A_atC => ld_A_atC
  | .di => di
  | .invalid_F4 => invalid_F4
  | .push_AF => pushInstr .af
  | .rst_30 => rstInstr .k6
  | .ld_SP_HL => ld_SP_HL
  | .ei => ei
  | .invalid_FC => invalid_FC
  | .invalid_FD => invalid_FD
  | .rst_38 => rstInstr .k7
  | .rlc_B => rotInstr .rlc (.reg .b)
  | .rlc_C => rotInstr .rlc (.reg .c)
  | .rlc_D => rotInstr .rlc (.reg .d)
  | .rlc_E => rotInstr .rlc (.reg .e)
  | .rlc_H => rotInstr .rlc (.reg .h)
  | .rlc_L => rotInstr .rlc (.reg .l)
  | .rlc_atHL => rotInstr .rlc .atHL
  | .rlc_A => rotInstr .rlc (.reg .a)
  | .rrc_B => rotInstr .rrc (.reg .b)
  | .rrc_C => rotInstr .rrc (.reg .c)
  | .rrc_D => rotInstr .rrc (.reg .d)
  | .rrc_E => rotInstr .rrc (.reg .e)
  | .rrc_H => rotInstr .rrc (.reg .h)
  | .rrc_L => rotInstr .rrc (.reg .l)
  | .rrc_atHL => rotInstr .rrc .atHL
  | .rrc_A => rotInstr .rrc (.reg .a)
  | .rl_B => rotInstr .rl (.reg .b)
  | .rl_C => rotInstr .rl (.reg .c)
  | .rl_D => rotInstr .rl (.reg .d)
  | .rl_E => rotInstr .rl (.reg .e)
  | .rl_H => rotInstr .rl (.reg .h)
  | .rl_L => rotInstr .rl (.reg .l)
  | .rl_atHL => rotInstr .rl .atHL
  | .rl_A => rotInstr .rl (.reg .a)
  | .rr_B => rotInstr .rr (.reg .b)
  | .rr_C => rotInstr .rr (.reg .c)
  | .rr_D => rotInstr .rr (.reg .d)
  | .rr_E => rotInstr .rr (.reg .e)
  | .rr_H => rotInstr .rr (.reg .h)
  | .rr_L => rotInstr .rr (.reg .l)
  | .rr_atHL => rotInstr .rr .atHL
  | .rr_A => rotInstr .rr (.reg .a)
  | .sla_B => rotInstr .sla (.reg .b)
  | .sla_C => rotInstr .sla (.reg .c)
  | .sla_D => rotInstr .sla (.reg .d)
  | .sla_E => rotInstr .sla (.reg .e)
  | .sla_H => rotInstr .sla (.reg .h)
  | .sla_L => rotInstr .sla (.reg .l)
  | .sla_atHL => rotInstr .sla .atHL
  | .sla_A => rotInstr .sla (.reg .a)
  | .sra_B => rotInstr .sra (.reg .b)
  | .sra_C => rotInstr .sra (.reg .c)
  | .sra_D => rotInstr .sra (.reg .d)
  | .sra_E => rotInstr .sra (.reg .e)
  | .sra_H => rotInstr .sra (.reg .h)
  | .sra_L => rotInstr .sra (.reg .l)
  | .sra_atHL => rotInstr .sra .atHL
  | .sra_A => rotInstr .sra (.reg .a)
  | .swap_B => rotInstr .swap (.reg .b)
  | .swap_C => rotInstr .swap (.reg .c)
  | .swap_D => rotInstr .swap (.reg .d)
  | .swap_E => rotInstr .swap (.reg .e)
  | .swap_H => rotInstr .swap (.reg .h)
  | .swap_L => rotInstr .swap (.reg .l)
  | .swap_atHL => rotInstr .swap .atHL
  | .swap_A => rotInstr .swap (.reg .a)
  | .srl_B => rotInstr .srl (.reg .b)
  | .srl_C => rotInstr .srl (.reg .c)
  | .srl_D => rotInstr .srl (.reg .d)
  | .srl_E => rotInstr .srl (.reg .e)
  | .srl_H => rotInstr .srl (.reg .h)
  | .srl_L => rotInstr .srl (.reg .l)
  | .srl_atHL => rotInstr .srl .atHL
  | .srl_A => rotInstr .srl (.reg .a)
  | .bit_0_B => bitInstr .k0 (.reg .b)
  | .bit_0_C => bitInstr .k0 (.reg .c)
  | .bit_0_D => bitInstr .k0 (.reg .d)
  | .bit_0_E => bitInstr .k0 (.reg .e)
  | .bit_0_H => bitInstr .k0 (.reg .h)
  | .bit_0_L => bitInstr .k0 (.reg .l)
  | .bit_0_atHL => bitInstr .k0 .atHL
  | .bit_0_A => bitInstr .k0 (.reg .a)
  | .bit_1_B => bitInstr .k1 (.reg .b)
  | .bit_1_C => bitInstr .k1 (.reg .c)
  | .bit_1_D => bitInstr .k1 (.reg .d)
  | .bit_1_E => bitInstr .k1 (.reg .e)
  | .bit_1_H => bitInstr .k1 (.reg .h)
  | .bit_1_L => bitInstr .k1 (.reg .l)
  | .bit_1_atHL => bitInstr .k1 .atHL
  | .bit_1_A => bitInstr .k1 (.reg .a)
  | .bit_2_B => bitInstr .k2 (.reg .b)
  | .bit_2_C => bitInstr .k2 (.reg .c)
  | .bit_2_D => bitInstr .k2 (.reg .d)
  | .bit_2_E => bitInstr .k2 (.reg .e)
  | .bit_2_H => bitInstr .k2 (.reg .h)
  | .bit_2_L => bitInstr .k2 (.reg .l)
  | .bit_2_atHL => bitInstr .k2 .atHL
  | .bit_2_A => bitInstr .k2 (.reg .a)
  | .bit_3_B => bitInstr .k3 (.reg .b)
  | .bit_3_C => bitInstr .k3 (.reg .c)
  | .bit_3_D => bitInstr .k3 (.reg .d)
  | .bit_3_E => bitInstr .k3 (.reg .e)
  | .bit_3_H => bitInstr .k3 (.reg .h)
  | .bit_3_L => bitInstr .k3 (.reg .l)
  | .bit_3_atHL => bitInstr .k3 .atHL
  | .bit_3_A => bitInstr .k3 (.reg .a)
  | .bit_4_B => bitInstr .k4 (.reg .b)
  | .bit_4_C => bitInstr .k4 (.reg .c)
  | .bit_4_D => bitInstr .k4 (.reg .d)
  | .bit_4_E => bitInstr .k4 (.reg .e)
  | .bit_4_H => bitInstr .k4 (.reg .h)
  | .bit_4_L => bitInstr .k4 (.reg .l)
  | .bit_4_atHL => bitInstr .k4 .atHL
  | .bit_4_A => bitInstr .k4 (.reg .a)
  | .bit_5_B => bitInstr .k5 (.reg .b)
  | .bit_5_C => bitInstr .k5 (.reg .c)
  | .bit_5_D => bitInstr .k5 (.reg .d)
  | .bit_5_E => bitInstr .k5 (.reg .e)
  | .bit_5_H => bitInstr .k5 (.reg .h)
  | .bit_5_L => bitInstr .k5 (.reg .l)
  | .bit_5_atHL => bitInstr .k5 .atHL
  | .bit_5_A => bitInstr .k5 (.reg .a)
  | .bit_6_B => bitInstr .k6 (.reg .b)
  | .bit_6_C => bitInstr .k6 (.reg .c)
  | .bit_6_D => bitInstr .k6 (.reg .d)
  | .bit_6_E => bitInstr .k6 (.reg .e)
  | .bit_6_H => bitInstr .k6 (.reg .h)
  | .bit_6_L => bitInstr .k6 (.reg .l)
  | .bit_6_atHL => bitInstr .k6 .atHL
  | .bit_6_A => bitInstr .k6 (.reg .a)
  | .bit_7_B => bitInstr .k7 (.reg .b)
  | .bit_7_C => bitInstr .k7 (.reg .c)
  | .bit_7_D => bitInstr .k7 (.reg .d)
  | .bit_7_E => bitInstr .k7 (.reg .e)
  | .bit_7_H => bitInstr .k7 (.reg .h)
  | .bit_7_L => bitInstr .k7 (.reg .l)
  | .bit_7_atHL => bitInstr .k7 .atHL
  | .bit_7_A => bitInstr .k7 (.reg .a)
  | .res_0_B => resInstr .k0 (.reg .b)
  | .res_0_C => resInstr .k0 (.reg .c)
  | .res_0_D => resInstr .k0 (.reg .d)
  | .res_0_E => resInstr .k0 (.reg .e)
  | .res_0_H => resInstr .k0 (.reg .h)
  | .res_0_L => resInstr .k0 (.reg .l)
  | .res_0_atHL => resInstr .k0 .atHL
  | .res_0_A => resInstr .k0 (.reg .a)
  | .res_1_B => resInstr .k1 (.reg .b)
  | .res_1_C => resInstr .k1 (.reg .c)
  | .res_1_D => resInstr .k1 (.reg .d)
  | .res_1_E => resInstr .k1 (.reg .e)
  | .res_1_H => resInstr .k1 (.reg .h)
  | .res_1_L => resInstr .k1 (.reg .l)
  | .res_1_atHL => resInstr .k1 .atHL
  | .res_1_A => resInstr .k1 (.reg .a)
  | .res_2_B => resInstr .k2 (.reg .b)
  | .res_2_C => resInstr .k2 (.reg .c)
  | .res_2_D => resInstr .k2 (.reg .d)
  | .res_2_E => resInstr .k2 (.reg .e)
  | .res_2_H => resInstr .k2 (.reg .h)
  | .res_2_L => resInstr .k2 (.reg .l)
  | .res_2_atHL => resInstr .k2 .atHL
  | .res_2_A => resInstr .k2 (.reg .a)
  | .res_3_B => resInstr .k3 (.reg .b)
  | .res_3_C => resInstr .k3 (.reg .c)
  | .res_3_D => resInstr .k3 (.reg .d)
  | .res_3_E => resInstr .k3 (.reg .e)
  | .res_3_H => resInstr .k3 (.reg .h)
  | .res_3_L => resInstr .k3 (.reg .l)
  | .res_3_atHL => resInstr .k3 .atHL
  | .res_3_A => resInstr .k3 (.reg .a)
  | .res_4_B => resInstr .k4 (.reg .b)
  | .res_4_C => resInstr .k4 (.reg .c)
  | .res_4_D => resInstr .k4 (.reg .d)
  | .res_4_E => resInstr .k4 (.reg .e)
  | .res_4_H => resInstr .k4 (.reg .h)
  | .res_4_L => resInstr .k4 (.reg .l)
  | .res_4_atHL => resInstr .k4 .atHL
  | .res_4_A => resInstr .k4 (.reg .a)
  | .res_5_B => resInstr .k5 (.reg .b)
  | .res_5_C => resInstr .k5 (.reg .c)
  | .res_5_D => resInstr .k5 (.reg .d)
  | .res_5_E => resInstr .k5 (.reg .e)
  | .res_5_H => resInstr .k5 (.reg .h)
  | .res_5_L => resInstr .k5 (.reg .l)
  | .res_5_atHL => resInstr .k5 .atHL
  | .res_5_A => resInstr .k5 (.reg .a)
  | .res_6_B => resInstr .k6 (.reg .b)
  | .res_6_C => resInstr .k6 (.reg .c)
  | .res_6_D => resInstr .k6 (.reg .d)
  | .res_6_E => resInstr .k6 (.reg .e)
  | .res_6_H => resInstr .k6 (.reg .h)
  | .res_6_L => resInstr .k6 (.reg .l)
  | .res_6_atHL => resInstr .k6 .atHL
  | .res_6_A => resInstr .k6 (.reg .a)
  | .res_7_B => resInstr .k7 (.reg .b)
  | .res_7_C => resInstr .k7 (.reg .c)
  | .res_7_D => resInstr .k7 (.reg .d)
  | .res_7_E => resInstr .k7 (.reg .e)
  | .res_7_H => resInstr .k7 (.reg .h)
  | .res_7_L => resInstr .k7 (.reg .l)
  | .res_7_atHL => resInstr .k7 .atHL
  | .res_7_A => resInstr .k7 (.reg .a)
  | .set_0_B => setInstr .k0 (.reg .b)
  | .set_0_C => setInstr .k0 (.reg .c)
  | .set_0_D => setInstr .k0 (.reg .d)
  | .set_0_E => setInstr .k0 (.reg .e)
  | .set_0_H => setInstr .k0 (.reg .h)
  | .set_0_L => setInstr .k0 (.reg .l)
  | .set_0_atHL => setInstr .k0 .atHL
  | .set_0_A => setInstr .k0 (.reg .a)
  | .set_1_B => setInstr .k1 (.reg .b)
  | .set_1_C => setInstr .k1 (.reg .c)
  | .set_1_D => setInstr .k1 (.reg .d)
  | .set_1_E => setInstr .k1 (.reg .e)
  | .set_1_H => setInstr .k1 (.reg .h)
  | .set_1_L => setInstr .k1 (.reg .l)
  | .set_1_atHL => setInstr .k1 .atHL
  | .set_1_A => setInstr .k1 (.reg .a)
  | .set_2_B => setInstr .k2 (.reg .b)
  | .set_2_C => setInstr .k2 (.reg .c)
  | .set_2_D => setInstr .k2 (.reg .d)
  | .set_2_E => setInstr .k2 (.reg .e)
  | .set_2_H => setInstr .k2 (.reg .h)
  | .set_2_L => setInstr .k2 (.reg .l)
  | .set_2_atHL => setInstr .k2 .atHL
  | .set_2_A => setInstr .k2 (.reg .a)
  | .set_3_B => setInstr .k3 (.reg .b)
  | .set_3_C => setInstr .k3 (.reg .c)
  | .set_3_D => setInstr .k3 (.reg .d)
  | .set_3_E => setInstr .k3 (.reg .e)
  | .set_3_H => setInstr .k3 (.reg .h)
  | .set_3_L => setInstr .k3 (.reg .l)
  | .set_3_atHL => setInstr .k3 .atHL
  | .set_3_A => setInstr .k3 (.reg .a)
  | .set_4_B => setInstr .k4 (.reg .b)
  | .set_4_C => setInstr .k4 (.reg .c)
  | .set_4_D => setInstr .k4 (.reg .d)
  | .set_4_E => setInstr .k4 (.reg .e)
  | .set_4_H => setInstr .k4 (.reg .h)
  | .set_4_L => setInstr .k4 (.reg .l)
  | .set_4_atHL => setInstr .k4 .atHL
  | .set_4_A => setInstr .k4 (.reg .a)
  | .set_5_B => setInstr .k5 (.reg .b)
  | .set_5_C => setInstr .k5 (.reg .c)
  | .set_5_D => setInstr .k5 (.reg .d)
  | .set_5_E => setInstr .k5 (.reg .e)
  | .set_5_H => setInstr .k5 (.reg .h)
  | .set_5_L => setInstr .k5 (.reg .l)
  | .set_5_atHL => setInstr .k5 .atHL
  | .set_5_A => setInstr .k5 (.reg .a)
  | .set_6_B => setInstr .k6 (.reg .b)
  | .set_6_C => setInstr .k6 (.reg .c)
  | .set_6_D => setInstr .k6 (.reg .d)
  | .set_6_E => setInstr .k6 (.reg .e)
  | .set_6_H => setInstr .k6 (.reg .h)
  | .set_6_L => setInstr .k6 (.reg .l)
  | .set_6_atHL => setInstr .k6 .atHL
  | .set_6_A => setInstr .k6 (.reg .a)
  | .set_7_B => setInstr .k7 (.reg .b)
  | .set_7_C => setInstr .k7 (.reg .c)
  | .set_7_D => setInstr .k7 (.reg .d)
  | .set_7_E => setInstr .k7 (.reg .e)
  | .set_7_H => setInstr .k7 (.reg .h)
  | .set_7_L => setInstr .k7 (.reg .l)
  | .set_7_atHL => setInstr .k7 .atHL
  | .set_7_A => setInstr .k7 (.reg .a)

/-! ### What each shape executes to -/

theorem exec_eq_loadInstr_reg_reg (dst r : Reg8) (s : State) :
    exec (loadInstr (.reg dst) (.reg r)) s = .next (retireWith 1 4 (s.setReg dst (s.reg r))) := by cases dst <;> cases r <;> rfl
theorem exec_eq_loadInstr_reg_atHL (dst : Reg8) (s : State) :
    exec (loadInstr (.reg dst) .atHL) s = .next (retireWith 1 8 (s.setReg dst (s.rd s.hl))) := by cases dst <;> rfl
theorem exec_eq_loadInstr_atHL_reg (r : Reg8) (s : State) :
    exec (loadInstr .atHL (.reg r)) s = .next (retireWith 1 8 (memWrite config s.hl (s.reg r) s)) := by cases r <;> rfl
theorem exec_eq_loadInstr_atHL_atHL (s : State) :
    exec (loadInstr .atHL .atHL) s = .next (retireWith 1 4 { s with run := .halted }) := rfl
theorem exec_eq_halt (s : State) : exec .halt s = .next (retireWith 1 4 { s with run := .halted }) := rfl
theorem exec_eq_aluInstr_reg (o : AluOp) (r : Reg8) (s : State) :
    exec (aluInstr o (.reg r)) s = .next (retireWith 1 4 (aluA o (s.reg r) s)) := by cases o <;> cases r <;> rfl
theorem exec_eq_aluInstr_atHL (o : AluOp) (s : State) :
    exec (aluInstr o .atHL) s = .next (retireWith 1 8 (aluA o (s.rd s.hl) s)) := by cases o <;> rfl
theorem exec_eq_aluImmInstr (n : Byte) (o : AluOp) (s : State) :
    exec (aluImmInstr n o) s = .next (retireWith 2 8 (aluA o n s)) := by cases o <;> rfl
theorem exec_eq_incInstr_reg (r : Reg8) (s : State) :
    exec (incInstr (.reg r)) s = .next (retireWith 1 4
      (State.setReg { s with f := (inc8 (s.reg r) s.flagC).flags } r (inc8 (s.reg r) s.flagC).value)) := by cases r <;> rfl
theorem exec_eq_incInstr_atHL (s : State) :
    exec (incInstr .atHL) s = .next (retireWith 1 12
      (memWrite config s.hl (inc8 (s.rd s.hl) s.flagC).value { s with f := (inc8 (s.rd s.hl) s.flagC).flags })) := rfl
theorem exec_eq_decInstr_reg (r : Reg8) (s : State) :
    exec (decInstr (.reg r)) s = .next (retireWith 1 4
      (State.setReg { s with f := (dec8 (s.reg r) s.flagC).flags } r (dec8 (s.reg r) s.flagC).value)) := by cases r <;> rfl
theorem exec_eq_decInstr_atHL (s : State) :
    exec (decInstr .atHL) s = .next (retireWith 1 12
      (memWrite config s.hl (dec8 (s.rd s.hl) s.flagC).value { s with f := (dec8 (s.rd s.hl) s.flagC).flags })) := rfl
theorem exec_eq_loadImmInstr_reg (n : Byte) (r : Reg8) (s : State) :
    exec (loadImmInstr n (.reg r)) s = .next (retireWith 2 8 (s.setReg r n)) := by cases r <;> rfl
theorem exec_eq_loadImmInstr_atHL (n : Byte) (s : State) :
    exec (loadImmInstr n .atHL) s = .next (retireWith 2 12 (memWrite config s.hl n s)) := rfl
theorem exec_eq_loadPairInstr (nn : Word) (p : Pair) (s : State) :
    exec (loadPairInstr nn p) s = .next (retireWith 3 12 (s.setPair p nn)) := by cases p <;> rfl
theorem exec_eq_addHlInstr (p : Pair) (s : State) :
    exec (addHlInstr p) s = .next (retireWith 1 8
      (State.setPair { s with f := addHlFlags s.hl (s.pair p) s.flagZ } .hl (s.hl + s.pair p))) := by cases p <;> rfl
theorem exec_eq_incPairInstr (p : Pair) (s : State) :
    exec (incPairInstr p) s = .next (retireWith 1 8 (s.setPair p (s.pair p + 1))) := by cases p <;> rfl
theorem exec_eq_decPairInstr (p : Pair) (s : State) :
    exec (decPairInstr p) s = .next (retireWith 1 8 (s.setPair p (s.pair p - 1))) := by cases p <;> rfl
theorem exec_eq_pushInstr (p : StackPair) (s : State) :
    exec (pushInstr p) s = .next (retireWith 1 16 (push16 config (s.stackPair p) s)) := by cases p <;> rfl
theorem exec_eq_popInstr (p : StackPair) (s : State) :
    exec (popInstr p) s = .next (retireWith 1 12 ((dropTop s).setStackPair p (stackTop s))) := by cases p <;> rfl
theorem exec_eq_jumpIfInstr (nn : Word) (cc : Cond) (s : State) :
    exec (jumpIfInstr nn cc) s = .next (if s.cond cc then transfer 16 nn s else retireWith 3 12 s) := by cases cc <;> rfl
theorem exec_eq_callIfInstr (nn : Word) (cc : Cond) (s : State) :
    exec (callIfInstr nn cc) s =
      .next (if s.cond cc then transfer 24 nn (push16 config (nextPc 3 s) s) else retireWith 3 12 s) := by cases cc <;> rfl
theorem exec_eq_retIfInstr (cc : Cond) (s : State) :
    exec (retIfInstr cc) s =
      .next (if s.cond cc then transfer 20 (stackTop s) (dropTop s) else retireWith 1 8 s) := by cases cc <;> rfl
theorem exec_eq_jumpRelIfInstr (e : Byte) (cc : Cond) (s : State) :
    exec (jumpRelIfInstr e cc) s =
      .next (if s.cond cc then transfer 12 (relTarget e s) s else retireWith 2 8 s) := by cases cc <;> rfl
theorem exec_eq_rstInstr (k : Code3) (s : State) :
    exec (rstInstr k) s = .next (transfer 16 (config.rstTarget k) (push16 config (nextPc 1 s) s)) := by cases k <;> rfl
theorem exec_eq_rotInstr_reg (o : RotOp) (r : Reg8) (s : State) :
    exec (rotInstr o (.reg r)) s = .next (retireWith 2 8
      (State.setReg { s with f := (rot8 o (s.reg r) s.flagC).flags } r (rot8 o (s.reg r) s.flagC).value)) := by
  cases o <;> cases r <;> rfl
theorem exec_eq_rotInstr_atHL (o : RotOp) (s : State) :
    exec (rotInstr o .atHL) s = .next (retireWith 2 16
      (memWrite config s.hl (rot8 o (s.rd s.hl) s.flagC).value { s with f := (rot8 o (s.rd s.hl) s.flagC).flags })) := by
  cases o <;> rfl
theorem exec_eq_bitInstr_reg (k : Code3) (r : Reg8) (s : State) :
    exec (bitInstr k (.reg r)) s = .next (retireWith 2 8 { s with f := bitFlags k.index (s.reg r) s.flagC }) := by
  cases k <;> cases r <;> rfl
theorem exec_eq_bitInstr_atHL (k : Code3) (s : State) :
    exec (bitInstr k .atHL) s = .next (retireWith 2 12 { s with f := bitFlags k.index (s.rd s.hl) s.flagC }) := by cases k <;> rfl
theorem exec_eq_resInstr_reg (k : Code3) (r : Reg8) (s : State) :
    exec (resInstr k (.reg r)) s = .next (retireWith 2 8 (s.setReg r (clearBit8 (s.reg r) k.index))) := by
  cases k <;> cases r <;> rfl
theorem exec_eq_resInstr_atHL (k : Code3) (s : State) :
    exec (resInstr k .atHL) s = .next (retireWith 2 16 (memWrite config s.hl (clearBit8 (s.rd s.hl) k.index) s)) := by
  cases k <;> rfl
theorem exec_eq_setInstr_reg (k : Code3) (r : Reg8) (s : State) :
    exec (setInstr k (.reg r)) s = .next (retireWith 2 8 (s.setReg r (setBit8 (s.reg r) k.index))) := by
  cases k <;> cases r <;> rfl
theorem exec_eq_setInstr_atHL (k : Code3) (s : State) :
    exec (setInstr k .atHL) s = .next (retireWith 2 16 (memWrite config s.hl (setBit8 (s.rd s.hl) k.index) s)) := by
  cases k <;> rfl

/-! ### The instructions that stand alone -/

theorem exec_eq_nop (s : State) : exec .nop s = .next (retireWith 1 4 s) := rfl
theorem exec_eq_ld_atBC_A (s : State) : exec .ld_atBC_A s = .next (retireWith 1 8 (memWrite config (s.pair .bc) s.a s)) := rfl
theorem exec_eq_ld_atDE_A (s : State) : exec .ld_atDE_A s = .next (retireWith 1 8 (memWrite config (s.pair .de) s.a s)) := rfl
theorem exec_eq_ld_A_atBC (s : State) : exec .ld_A_atBC s = .next (retireWith 1 8 { s with a := s.rd (s.pair .bc) }) := rfl
theorem exec_eq_ld_A_atDE (s : State) : exec .ld_A_atDE s = .next (retireWith 1 8 { s with a := s.rd (s.pair .de) }) := rfl
theorem exec_eq_rlca (s : State) : exec .rlca s = .next (retireWith 1 4
    { s with a := (rotA8 .rlc s.a s.flagC).value, f := (rotA8 .rlc s.a s.flagC).flags }) := rfl
theorem exec_eq_rrca (s : State) : exec .rrca s = .next (retireWith 1 4
    { s with a := (rotA8 .rrc s.a s.flagC).value, f := (rotA8 .rrc s.a s.flagC).flags }) := rfl
theorem exec_eq_rla (s : State) : exec .rla s = .next (retireWith 1 4
    { s with a := (rotA8 .rl s.a s.flagC).value, f := (rotA8 .rl s.a s.flagC).flags }) := rfl
theorem exec_eq_rra (s : State) : exec .rra s = .next (retireWith 1 4
    { s with a := (rotA8 .rr s.a s.flagC).value, f := (rotA8 .rr s.a s.flagC).flags }) := rfl
theorem exec_eq_daa (s : State) : exec .daa s = .next (retireWith 1 4
    { s with a := (daa8 s.a s.flagN s.flagH s.flagC).value, f := (daa8 s.a s.flagN s.flagH s.flagC).flags }) := rfl
theorem exec_eq_cpl (s : State) : exec .cpl s = .next (retireWith 1 4
    { s with a := ~~~s.a, f := packF s.flagZ true true s.flagC }) := rfl
theorem exec_eq_scf (s : State) : exec .scf s = .next (retireWith 1 4
    { s with a := s.a, f := packF s.flagZ false false true }) := rfl
theorem exec_eq_ccf (s : State) : exec .ccf s = .next (retireWith 1 4
    { s with a := s.a, f := packF s.flagZ false false (!s.flagC) }) := rfl
theorem exec_eq_ld_atnn_SP (nn : Word) (s : State) :
    exec (.ld_atnn_SP nn) s = .next (retireWith 3 20 (memWrite16 config nn s.sp s)) := rfl
theorem exec_eq_stop (pad : Byte) (s : State) : exec (.stop pad) s = .next (retireWith 2 4 { s with run := .stopped }) := rfl
theorem exec_eq_jr_e (e : Byte) (s : State) : exec (.jr_e e) s = .next (transfer 12 (relTarget e s) s) := rfl
theorem exec_eq_ld_atHLinc_A (s : State) :
    exec .ld_atHLinc_A s = .next (retireWith 1 8 ((memWrite config s.hl s.a s).setPair .hl (s.hl + 1))) := rfl
theorem exec_eq_ld_atHLdec_A (s : State) :
    exec .ld_atHLdec_A s = .next (retireWith 1 8 ((memWrite config s.hl s.a s).setPair .hl (s.hl + (-1)))) := rfl
theorem exec_eq_ld_A_atHLinc (s : State) :
    exec .ld_A_atHLinc s = .next (retireWith 1 8 (State.setPair { s with a := s.rd s.hl } .hl (s.hl + 1))) := rfl
theorem exec_eq_ld_A_atHLdec (s : State) :
    exec .ld_A_atHLdec s = .next (retireWith 1 8 (State.setPair { s with a := s.rd s.hl } .hl (s.hl + (-1)))) := rfl
theorem exec_eq_jp_nn (nn : Word) (s : State) : exec (.jp_nn nn) s = .next (transfer 16 nn s) := rfl
theorem exec_eq_jp_HL (s : State) : exec .jp_HL s = .next (transfer 4 s.hl s) := rfl
theorem exec_eq_ret (s : State) : exec .ret s = .next (transfer 16 (stackTop s) (dropTop s)) := rfl
theorem exec_eq_reti (s : State) : exec .reti s = .next (returnFromInterrupt 16 s) := rfl
theorem exec_eq_call_nn (nn : Word) (s : State) :
    exec (.call_nn nn) s = .next (transfer 24 nn (push16 config (nextPc 3 s) s)) := rfl
theorem exec_eq_ldh_atn_A (n : Byte) (s : State) :
    exec (.ldh_atn_A n) s = .next (retireWith 2 12 (memWrite config (highPageAddr config n) s.a s)) := rfl
theorem exec_eq_ldh_A_atn (n : Byte) (s : State) :
    exec (.ldh_A_atn n) s = .next (retireWith 2 12 { s with a := s.rd (highPageAddr config n) }) := rfl
theorem exec_eq_ld_atC_A (s : State) :
    exec .ld_atC_A s = .next (retireWith 1 8 (memWrite config (highPageAddr config s.c) s.a s)) := rfl
theorem exec_eq_ld_A_atC (s : State) :
    exec .ld_A_atC s = .next (retireWith 1 8 { s with a := s.rd (highPageAddr config s.c) }) := rfl
theorem exec_eq_ld_atnn_A (nn : Word) (s : State) :
    exec (.ld_atnn_A nn) s = .next (retireWith 3 16 (memWrite config nn s.a s)) := rfl
theorem exec_eq_ld_A_atnn (nn : Word) (s : State) :
    exec (.ld_A_atnn nn) s = .next (retireWith 3 16 { s with a := s.rd nn }) := rfl
theorem exec_eq_add_SP_e (e : Byte) (s : State) :
    exec (.add_SP_e e) s = .next (retireWith 2 16 { s with sp := s.sp + sext16 e, f := addSpFlags s.sp e }) := rfl
theorem exec_eq_ld_HL_SPe (e : Byte) (s : State) :
    exec (.ld_HL_SPe e) s = .next (retireWith 2 12
      (State.setPair { s with f := addSpFlags s.sp e } .hl (s.sp + sext16 e))) := rfl
theorem exec_eq_ld_SP_HL (s : State) : exec .ld_SP_HL s = .next (retireWith 1 8 { s with sp := s.hl }) := rfl
theorem exec_eq_di (s : State) : exec .di s = .next (retireWith 1 4 { s with ime := false }) := rfl
theorem exec_eq_ei (s : State) : exec .ei s = .next (retireWith 1 4 { s with ime := true }) := rfl

/-- The eleven unassigned opcodes (R260) all execute alike. -/
theorem exec_eq_invalid (i : Instr) (s : State)
    (h : i ∈ [.invalid_D3, .invalid_DB, .invalid_DD, .invalid_E3, .invalid_E4, .invalid_EB, .invalid_EC, .invalid_ED, .invalid_F4,
      .invalid_FC, .invalid_FD]) : exec i s = .next (retireWith 1 4 s) := by
  simp only [List.mem_cons, List.not_mem_nil, or_false] at h
  rcases h with rfl | rfl | rfl | rfl | rfl | rfl | rfl | rfl | rfl | rfl | rfl <;> rfl

end Sys2Proof.Machine
end

