-- ==== Sys2Proof/Laws/Devices.lean ====
section
/-! SUPPORT. What each device operation can change (60_exceptions.md sections 2, 5 and 6): the fields it leaves, said once for each as an
equation with its own result's memory, and that each keeps the canonical form. -/
namespace Sys2Proof.Machine

/-! ### Counters of a stated width -/

@[simp] theorem wrapTo_none (n : Nat) : wrapTo none n = n := rfl

@[simp] theorem wrapTo_some (w n : Nat) : wrapTo (some w) n = n % 2 ^ w := rfl

/-- A width never raises a count. -/
theorem wrapTo_le (w : Option Nat) (n : Nat) : wrapTo w n ≤ n := by
  cases w with
  | none => exact Nat.le_refl n
  | some w => exact Nat.mod_le n (2 ^ w)

@[simp] theorem config_cycleCounterWidth : config.cycleCounterWidth = none := rfl

@[simp] theorem config_accWidth : config.accWidth = none := rfl

/-! ### The Timer -/

/-- The divider writes memory and `divAcc` alone. -/
theorem timerDivider_frame (cfg : Config) (cost : Nat) (s : State) :
    timerDivider cfg cost s =
      { s with mem := (timerDivider cfg cost s).mem, divAcc := BitVec.ofNat 8 (s.divAcc.toNat + cost) } := by
  unfold timerDivider
  dsimp only
  split <;> rfl

/-- The divider writes no byte but DIV. -/
theorem timerDivider_rd (cfg : Config) (cost : Nat) (s : State) (y : Word) :
    (timerDivider cfg cost s).rd y =
      if y = cfg.addrDiv ∧ s.divAcc.toNat + cost > 255 then s.rd cfg.addrDiv + 1 else s.rd y := by
  have hd (t : State) (x : Byte) : ({ t with divAcc := x } : State).rd y = t.rd y := rfl
  unfold timerDivider
  dsimp only
  rw [hd]
  split <;> simp [*]

theorem timerDivider_wf (cfg : Config) (cost : Nat) {s : State} (h : s.mem.wf = true) : (timerDivider cfg cost s).mem.wf = true := by
  unfold timerDivider
  dsimp only
  split
  · exact poke_wf _ _ h
  · exact h

/-- A tick writes memory alone. -/
theorem timerTick_frame (cfg : Config) (s : State) : timerTick cfg s = { s with mem := (timerTick cfg s).mem } := by
  unfold timerTick
  dsimp only
  split <;> rfl

/-- A tick that does not wrap. -/
theorem timerTick_plain (cfg : Config) (s : State) (h : ¬ s.rd cfg.addrTima + 1 < s.rd cfg.addrTima) :
    timerTick cfg s = s.poke cfg.addrTima (s.rd cfg.addrTima + 1) := by
  simp only [timerTick, h, if_false]

/-- A tick that wraps. -/
theorem timerTick_wrap (cfg : Config) (s : State) (h : s.rd cfg.addrTima + 1 < s.rd cfg.addrTima) :
    timerTick cfg s = (s.poke cfg.addrIf (setBit8 (s.rd cfg.addrIf) (cfg.irqBit .timer))).poke cfg.addrTima (s.rd cfg.addrTma) := by
  simp only [timerTick, h, if_true]

/-- The byte wraps exactly at 0xFF. -/
theorem succ_lt_self_iff (v : Byte) : v + 1 < v ↔ v = 0xFF := by
  constructor <;> intro h <;> bv_omega

theorem timerTick_wf (cfg : Config) {s : State} (h : s.mem.wf = true) : (timerTick cfg s).mem.wf = true := by
  unfold timerTick
  dsimp only
  split
  · exact poke_wf _ _ (poke_wf _ _ h)
  · exact poke_wf _ _ h

theorem timerTicks_frame (cfg : Config) (n : Nat) (s : State) : timerTicks cfg n s = { s with mem := (timerTicks cfg n s).mem } := by
  induction n generalizing s with
  | zero => rfl
  | succ n ih =>
    rw [timerTicks]
    have h := ih (timerTick cfg s)
    rw [timerTick_frame] at h ⊢
    exact h

theorem timerTicks_wf (cfg : Config) (n : Nat) {s : State} (h : s.mem.wf = true) : (timerTicks cfg n s).mem.wf = true := by
  induction n generalizing s with
  | zero => exact h
  | succ n ih => exact ih (timerTick_wf cfg h)

/-- The Timer writes memory, `divAcc` and `timaAcc` alone. -/
theorem timerIncrease_frame (cfg : Config) (cost : Nat) (s : State) :
    timerIncrease cfg cost s =
      { s with
        mem := (timerIncrease cfg cost s).mem
        divAcc := BitVec.ofNat 8 (s.divAcc.toNat + cost)
        timaAcc := (timerIncrease cfg cost s).timaAcc } := by
  unfold timerIncrease
  dsimp only
  split
  · unfold timerCount
    dsimp only
    rw [timerTicks_frame, timerDivider_frame]
  · rw [timerDivider_frame]

theorem timerIncrease_wf (cfg : Config) (cost : Nat) {s : State} (h : s.mem.wf = true) : (timerIncrease cfg cost s).mem.wf = true := by
  have hd := timerDivider_wf cfg cost h
  unfold timerIncrease
  dsimp only
  split
  · exact timerTicks_wf cfg _ (s := { timerDivider cfg cost s with timaAcc := _ }) hd
  · exact hd

/-- The Timer with the enable bit clear. -/
theorem timerIncrease_off (cfg : Config) (cost : Nat) (s : State)
    (h : ((timerDivider cfg cost s).rd cfg.addrTac).getLsbD cfg.tacEnableBit = false) :
    timerIncrease cfg cost s = timerDivider cfg cost s := by
  simp [timerIncrease, h]

/-- The Timer with the enable bit set. -/
theorem timerIncrease_on (cfg : Config) (cost : Nat) (s : State)
    (h : ((timerDivider cfg cost s).rd cfg.addrTac).getLsbD cfg.tacEnableBit = true) :
    timerIncrease cfg cost s =
      timerCount cfg (cfg.timerCpt (tacRate ((timerDivider cfg cost s).rd cfg.addrTac))) cost (timerDivider cfg cost s) := by
  simp [timerIncrease, h]

/-- The tick accounting at the default parameters, where the accumulator is unbounded. -/
theorem timerCount_config (th cost : Nat) (s : State) :
    timerCount config th cost s =
      timerTicks config ((s.timaAcc + cost) / th) { s with timaAcc := (s.timaAcc + cost) % th } := rfl

/-! ### The display -/

/-- The end of a mode writes memory and resets `lcdAcc`. -/
theorem displayTransition_frame (cfg : Config) (m : DisplayMode) (s : State) :
    displayTransition cfg m s = { s with mem := (displayTransition cfg m s).mem, lcdAcc := 0 } := by
  unfold displayTransition
  dsimp only
  cases m <;> rfl

/-- The end of a mode writes no byte but STAT and, in Mode0, LY. -/
theorem displayTransition_rd (cfg : Config) (m : DisplayMode) (s : State) (y : Word) (hy : y ≠ cfg.addrStat) (hl : y ≠ cfg.addrLy) :
    (displayTransition cfg m s).rd y = s.rd y := by
  have hd (t : State) (x : Nat) : ({ t with lcdAcc := x } : State).rd y = t.rd y := rfl
  unfold displayTransition
  dsimp only
  rw [hd, poke_rd, if_neg hy]
  cases m
  · dsimp only; rw [poke_rd, if_neg hl]
  · rfl
  · rfl
  · rfl

theorem displayTransition_wf (cfg : Config) (m : DisplayMode) {s : State} (h : s.mem.wf = true) :
    (displayTransition cfg m s).mem.wf = true := by
  unfold displayTransition
  cases m
  · exact poke_wf _ _ (poke_wf _ _ h)
  · exact poke_wf _ _ h
  · exact poke_wf _ _ h
  · exact poke_wf _ _ h

/-- An update that stays within the mode. -/
theorem displayUpdate_within (cfg : Config) (cost : Nat) (s : State)
    (h : wrapTo cfg.accWidth (s.lcdAcc + cost) < cfg.lcdDur (displayModeOf (s.rd cfg.addrStat))) :
    displayUpdate cfg cost s = { s with lcdAcc := wrapTo cfg.accWidth (s.lcdAcc + cost) } :=
  if_neg (Nat.not_le_of_lt h)

/-- An update that ends the mode. -/
theorem displayUpdate_ends (cfg : Config) (cost : Nat) (s : State)
    (h : cfg.lcdDur (displayModeOf (s.rd cfg.addrStat)) ≤ wrapTo cfg.accWidth (s.lcdAcc + cost)) :
    displayUpdate cfg cost s =
      displayTransition cfg (displayModeOf (s.rd cfg.addrStat)) { s with lcdAcc := wrapTo cfg.accWidth (s.lcdAcc + cost) } :=
  if_pos h

/-- `displayUpdate_within` at the default parameters, where the accumulator is unbounded. -/
theorem displayUpdate_within_config (cost : Nat) (s : State)
    (h : s.lcdAcc + cost < config.lcdDur (displayModeOf (s.rd config.addrStat))) :
    displayUpdate config cost s = { s with lcdAcc := s.lcdAcc + cost } :=
  displayUpdate_within config cost s h

/-- `displayUpdate_ends` at the default parameters. -/
theorem displayUpdate_ends_config (cost : Nat) (s : State)
    (h : config.lcdDur (displayModeOf (s.rd config.addrStat)) ≤ s.lcdAcc + cost) :
    displayUpdate config cost s =
      displayTransition config (displayModeOf (s.rd config.addrStat)) { s with lcdAcc := s.lcdAcc + cost } :=
  displayUpdate_ends config cost s h

/-- The display writes memory and `lcdAcc` alone. -/
theorem displayUpdate_frame (cfg : Config) (cost : Nat) (s : State) :
    displayUpdate cfg cost s =
      { s with mem := (displayUpdate cfg cost s).mem, lcdAcc := (displayUpdate cfg cost s).lcdAcc } := by
  unfold displayUpdate
  dsimp only
  split
  · rw [displayTransition_frame]
  · rfl

/-- The display writes no byte but STAT and LY. -/
theorem displayUpdate_rd (cfg : Config) (cost : Nat) (s : State) (y : Word) (hs : y ≠ cfg.addrStat) (hl : y ≠ cfg.addrLy) :
    (displayUpdate cfg cost s).rd y = s.rd y := by
  unfold displayUpdate
  dsimp only
  split
  · rw [displayTransition_rd _ _ _ _ hs hl]; rfl
  · rfl

theorem displayUpdate_wf (cfg : Config) (cost : Nat) {s : State} (h : s.mem.wf = true) : (displayUpdate cfg cost s).mem.wf = true := by
  unfold displayUpdate
  dsimp only
  split
  · exact displayTransition_wf cfg _ (s := { s with lcdAcc := _ }) h
  · exact h

/-! ### The interrupt controller -/

/-- The evaluation enters at most one interrupt. -/
theorem interruptEvaluate_cases (cfg : Config) (s : State) :
    interruptEvaluate cfg s = s ∨ ∃ src, s.ime = true ∧ selectSource cfg s = some src ∧ interruptEvaluate cfg s = enterInterrupt cfg src s := by
  unfold interruptEvaluate
  split
  · next h =>
    cases hs : selectSource cfg s with
    | none => exact .inl rfl
    | some src => exact .inr ⟨src, h, rfl, rfl⟩
  · exact .inl rfl

/-- The evaluation writes memory, the gate, PC and SP alone. -/
theorem interruptEvaluate_frame (cfg : Config) (s : State) :
    interruptEvaluate cfg s =
      { s with
        mem := (interruptEvaluate cfg s).mem
        ime := (interruptEvaluate cfg s).ime
        pc := (interruptEvaluate cfg s).pc
        sp := (interruptEvaluate cfg s).sp } := by
  rcases interruptEvaluate_cases cfg s with h | ⟨src, -, -, h⟩
  · rw [h]
  · rw [h, enterInterrupt_frame]

/-- The evaluation never turns the gate on. -/
theorem interruptEvaluate_ime (cfg : Config) (s : State) (h : s.ime = false) : interruptEvaluate cfg s = s := by
  simp [interruptEvaluate, h]

/-- With no request bit set, the evaluation does nothing (R281, R282). -/
theorem interruptEvaluate_idle {s : State} (h : s.rd config.addrIf = 0) : interruptEvaluate config s = s := by
  have hn : selectSource config s = none := by
    rw [selectSource, List.find?_eq_none]
    intro src _
    simp [pendingEnabled, h]
  unfold interruptEvaluate
  rw [hn]
  split <;> rfl

theorem interruptEvaluate_wf (cfg : Config) {s : State} (h : s.mem.wf = true) : (interruptEvaluate cfg s).mem.wf = true := by
  rcases interruptEvaluate_cases cfg s with h' | ⟨src, -, -, h'⟩ <;> rw [h']
  · exact h
  · exact enterInterrupt_wf cfg src h

/-! ### Stages 5 to 7 together -/

/-- The device phase writes no general register, no flag, neither the run state nor the cycle counter. -/
theorem devicePhase_frame (cfg : Config) (cost : Nat) (s : State) :
    devicePhase cfg cost s =
      { s with
        mem := (devicePhase cfg cost s).mem
        ime := (devicePhase cfg cost s).ime
        pc := (devicePhase cfg cost s).pc
        sp := (devicePhase cfg cost s).sp
        divAcc := (devicePhase cfg cost s).divAcc
        timaAcc := (devicePhase cfg cost s).timaAcc
        lcdAcc := (devicePhase cfg cost s).lcdAcc } := by
  unfold devicePhase
  rw [interruptEvaluate_frame, displayUpdate_frame, timerIncrease_frame]

theorem devicePhase_wf (cfg : Config) (cost : Nat) {s : State} (h : s.mem.wf = true) : (devicePhase cfg cost s).mem.wf = true :=
  interruptEvaluate_wf cfg (displayUpdate_wf cfg cost (timerIncrease_wf cfg cost h))

/-- The end of a step at the default parameters, where the cycle counter is unbounded. -/
theorem finishStep_config (s t : State) : finishStep config s t = devicePhase config (t.cycles - s.cycles) t := rfl

/-- The end of a step writes no general register, no flag and not the run state; the cycle counter is kept to its width. -/
theorem finishStep_frame (cfg : Config) (s t : State) :
    finishStep cfg s t =
      { t with
        cycles := wrapTo cfg.cycleCounterWidth t.cycles
        mem := (finishStep cfg s t).mem
        ime := (finishStep cfg s t).ime
        pc := (finishStep cfg s t).pc
        sp := (finishStep cfg s t).sp
        divAcc := (finishStep cfg s t).divAcc
        timaAcc := (finishStep cfg s t).timaAcc
        lcdAcc := (finishStep cfg s t).lcdAcc } := by
  unfold finishStep
  rw [devicePhase_frame]

theorem finishStep_wf (cfg : Config) (s : State) {t : State} (h : t.mem.wf = true) : (finishStep cfg s t).mem.wf = true :=
  devicePhase_wf cfg _ (s := { t with cycles := wrapTo cfg.cycleCounterWidth t.cycles }) h

/-! ### The whole step, whatever executes an instruction -/

/-- A step of a Running core whose instruction answers a next state. -/
theorem stepThrough_of_next (cfg : Config) (execute : Instr → State → Result) {s t : State} (hr : s.run = .running)
    (he : execute (fetch s) s = .next t) : stepThrough cfg execute s = .next (finishStep cfg s t) := by
  unfold stepThrough
  rw [hr]
  simp only [he]

/-- A step that goes on either did nothing, the core not Running, or ran the instruction fetched and then finished. -/
theorem stepThrough_cases (cfg : Config) (execute : Instr → State → Result) {s u : State} (h : stepThrough cfg execute s = .next u) :
    (s.run ≠ .running ∧ u = s) ∨
      ∃ t, s.run = .running ∧ execute (fetch s) s = .next t ∧ u = finishStep cfg s t := by
  unfold stepThrough at h
  cases hr : s.run with
  | running =>
    rw [hr] at h
    cases he : execute (fetch s) s with
    | next t =>
      simp only [he, Host.Outcome.next.injEq] at h
      exact .inr ⟨t, rfl, rfl, h.symm⟩
    | fault r => simp only [he, reduceCtorEq] at h
    | refused r => simp only [he, reduceCtorEq] at h
  | halted =>
    rw [hr] at h
    simp only [Host.Outcome.next.injEq] at h
    exact .inl ⟨by simp, h.symm⟩
  | stopped =>
    rw [hr] at h
    simp only [Host.Outcome.next.injEq] at h
    exact .inl ⟨by simp, h.symm⟩

end Sys2Proof.Machine
end

