-- ==== Sys2Proof/Laws/Flags.lean ====
section
/-! SUPPORT. What each flag computation of Machine/Flags.lean leaves: the four bits of `packF`, its low nibble, and for each shared
arithmetic operation the value as a number and the low nibble of F (10_state.md rules R24 to R26). -/
namespace Sys2Proof.Machine

theorem packF_bit7 (z n h c : Bool) : (packF z n h c).getLsbD 7 = z := by cases z <;> cases n <;> cases h <;> cases c <;> rfl
theorem packF_bit6 (z n h c : Bool) : (packF z n h c).getLsbD 6 = n := by cases z <;> cases n <;> cases h <;> cases c <;> rfl
theorem packF_bit5 (z n h c : Bool) : (packF z n h c).getLsbD 5 = h := by cases z <;> cases n <;> cases h <;> cases c <;> rfl
theorem packF_bit4 (z n h c : Bool) : (packF z n h c).getLsbD 4 = c := by cases z <;> cases n <;> cases h <;> cases c <;> rfl

/-- R25: the low nibble. -/
theorem packF_low (z n h c : Bool) : packF z n h c &&& 0x0F = 0 := by cases z <;> cases n <;> cases h <;> cases c <;> rfl

/-- The flags of a state whose F is packed. -/
theorem flags_of_packF {t : State} {z n h c : Bool} (hf : t.f = packF z n h c) :
    t.flagZ = z ∧ t.flagN = n ∧ t.flagH = h ∧ t.flagC = c ∧ t.f &&& 0x0F = 0 := by
  refine ⟨?_, ?_, ?_, ?_, ?_⟩
  · rw [State.flagZ, hf, packF_bit7]
  · rw [State.flagN, hf, packF_bit6]
  · rw [State.flagH, hf, packF_bit5]
  · rw [State.flagC, hf, packF_bit4]
  · rw [hf, packF_low]

/-- A byte is zero exactly when the number it stands for is. -/
theorem beq_zero_eq (v : Byte) : (v == 0) = decide (v.toNat = 0) := by
  rw [Bool.eq_iff_iff, beq_iff_eq, decide_eq_true_iff, ← BitVec.toNat_inj]; rfl

theorem toNat_bitByte (c : Bool) : (bitByte c).toNat = c.toNat := by cases c <;> rfl

/-! ### Values -/

theorem add8_toNat (a b : Byte) (c : Bool) : (add8 a b c).value.toNat = (a.toNat + b.toNat + c.toNat) % 256 := by
  simp only [add8, BitVec.toNat_add, toNat_bitByte]
  omega

theorem sub8_toInt (a b : Byte) (c : Bool) : ((sub8 a b c).value.toNat : Int) = ((a.toNat : Int) - b.toNat - c.toNat) % 256 := by
  have hb := b.isLt
  have hc := Bool.toNat_le c
  simp only [sub8, BitVec.toNat_sub, toNat_bitByte]
  omega

theorem inc8_toNat (v : Byte) (c : Bool) : (inc8 v c).value.toNat = (v.toNat + 1) % 256 := by
  simp [inc8, BitVec.toNat_add]

theorem dec8_toNat (v : Byte) (c : Bool) : (dec8 v c).value.toNat = (v.toNat + 255) % 256 := by
  have := v.isLt
  simp only [dec8, BitVec.toNat_sub]
  bv_omega

/-! ### The low nibble of F -/

theorem add8_low (a b : Byte) (c : Bool) : (add8 a b c).flags &&& 0x0F = 0 := packF_low _ _ _ _
theorem sub8_low (a b : Byte) (c : Bool) : (sub8 a b c).flags &&& 0x0F = 0 := packF_low _ _ _ _

theorem alu8_low (o : AluOp) (a b : Byte) (c : Bool) : (alu8 o a b c).flags &&& 0x0F = 0 := by
  cases o <;> exact packF_low _ _ _ _

theorem inc8_low (v : Byte) (c : Bool) : (inc8 v c).flags &&& 0x0F = 0 := packF_low _ _ _ _
theorem dec8_low (v : Byte) (c : Bool) : (dec8 v c).flags &&& 0x0F = 0 := packF_low _ _ _ _

theorem daa8_low (a : Byte) (n h c : Bool) : (daa8 a n h c).flags &&& 0x0F = 0 := by
  cases n <;> exact packF_low _ _ _ _

theorem rot8_low (o : RotOp) (v : Byte) (c : Bool) : (rot8 o v c).flags &&& 0x0F = 0 := packF_low _ _ _ _
theorem rotA8_low (o : RotOp) (v : Byte) (c : Bool) : (rotA8 o v c).flags &&& 0x0F = 0 := packF_low _ _ _ _
theorem bitFlags_low (i : Nat) (v : Byte) (c : Bool) : bitFlags i v c &&& 0x0F = 0 := packF_low _ _ _ _
theorem addHlFlags_low (a b : Word) (z : Bool) : addHlFlags a b z &&& 0x0F = 0 := packF_low _ _ _ _
theorem addSpFlags_low (sp : Word) (e : Byte) : addSpFlags sp e &&& 0x0F = 0 := packF_low _ _ _ _

/-! ### Bits of a byte -/

theorem getLsbD_setBit8 (v : Byte) (i j : Nat) (hi : i < 8) : (setBit8 v i).getLsbD j = (v.getLsbD j || decide (j = i)) := by
  simp only [setBit8, bitMask, BitVec.getLsbD_or, BitVec.getLsbD_twoPow, hi, decide_true, Bool.true_and]
  rcases Nat.lt_trichotomy i j with h | h | h <;> simp [eq_comm]

theorem getLsbD_clearBit8 (v : Byte) (i j : Nat) : (clearBit8 v i).getLsbD j = (v.getLsbD j && decide (j ≠ i)) := by
  by_cases hj : j < 8
  · by_cases hij : i = j
    · subst hij; simp [clearBit8, bitMask, hj]
    · simp [clearBit8, bitMask, hj, Ne.symm hij]
  · simp [clearBit8, BitVec.getLsbD_of_ge v j (by omega)]

end Sys2Proof.Machine
end

