-- ==== Sys2Proof/Laws/Step.lean ====
section
/-! SUPPORT. What a step can do, said once (60_exceptions.md rules R270, R271): `stepThrough_of_next` and `stepThrough_cases` at the
default parameters. -/
namespace Sys2Proof.Machine

/-- A step of a Running core whose instruction answers a next state. -/
theorem step_of_exec {s t : State} (hr : s.run = .running) (he : exec (fetch s) s = .next t) :
    step s = .next (devicePhase config (t.cycles - s.cycles) t) :=
  stepThrough_of_next config exec hr he

/-- A step that goes on either did nothing, the core not Running, or ran the instruction fetched and then the devices. -/
theorem step_cases {s u : State} (h : step s = .next u) :
    (s.run ≠ .running ∧ u = s) ∨
      ∃ t, s.run = .running ∧ exec (fetch s) s = .next t ∧ u = devicePhase config (t.cycles - s.cycles) t :=
  stepThrough_cases config exec h

end Sys2Proof.Machine
end

