-- ==== Sys2Proof/Laws/Parametric.lean ====
section
/-! SUPPORT. The machine at any parameters against the machine at the defaults: what `execWith` answers at `config`, and what a step
of `stepWith` can do. -/
namespace Sys2Proof.Machine

/-- Three bytes of a base opcode whose last two are a 16-bit operand (R66, R98). -/
theorem runBytes_operand16 (cfg : Config) {b : Byte} (nn : Word) (s : State) (hb : b ≠ prefixByte) :
    runBytes cfg b (lo8 nn) (hi8 nn) s = runBase cfg b (lo8 nn) nn s := by
  rw [runBytes, if_neg hb, cat16_hi8_lo8]

/-- At the defaults of R7 the instruction does what `exec` says. -/
theorem execWith_config (i : Instr) (s : State) : execWith config i s = exec i s := by
  cases i <;> first
    | rfl
    | (simp only [execWith, encode, List.getD_cons_zero, List.getD_cons_succ]; rfl)
    | (simp only [execWith, encode, List.getD_cons_zero, List.getD_cons_succ]
       rw [runBytes_operand16 config _ _ (by decide)]
       rfl)

/-! ### The cost of a conditional form (R213) -/

theorem jumpRelIf_cost (cfg : Config) (op : Opcode) (cc : Cond) (e : Byte) (s : State) :
    ∃ t, jumpRelIf cfg op cc e s = .next t ∧ t.cycles = s.cycles + cfg.cycles op (s.cond cc) := by
  refine ⟨_, rfl, ?_⟩
  cases s.cond cc <;> rfl

theorem jumpIf_cost (cfg : Config) (op : Opcode) (cc : Cond) (nn : Word) (s : State) :
    ∃ t, jumpIf cfg op cc nn s = .next t ∧ t.cycles = s.cycles + cfg.cycles op (s.cond cc) := by
  refine ⟨_, rfl, ?_⟩
  cases s.cond cc <;> rfl

theorem callIf_cost (cfg : Config) (op : Opcode) (cc : Cond) (nn : Word) (s : State) :
    ∃ t, callIf cfg op cc nn s = .next t ∧ t.cycles = s.cycles + cfg.cycles op (s.cond cc) := by
  refine ⟨_, rfl, ?_⟩
  cases s.cond cc <;> rfl

theorem retIf_cost (cfg : Config) (op : Opcode) (cc : Cond) (s : State) :
    ∃ t, retIf cfg op cc s = .next t ∧ t.cycles = s.cycles + cfg.cycles op (s.cond cc) := by
  refine ⟨_, rfl, ?_⟩
  cases s.cond cc <;> rfl

/-! ### The step -/

/-- A step of a Running core whose instruction answers a next state. -/
theorem stepWith_of_execWith (cfg : Config) {s t : State} (hr : s.run = .running) (he : execWith cfg (fetch s) s = .next t) :
    stepWith cfg s = .next (finishStep cfg s t) :=
  stepThrough_of_next cfg (execWith cfg) hr he

/-- A step that goes on either did nothing, the core not Running, or ran the instruction fetched and then finished. -/
theorem stepWith_cases (cfg : Config) {s u : State} (h : stepWith cfg s = .next u) :
    (s.run ≠ .running ∧ u = s) ∨
      ∃ t, s.run = .running ∧ execWith cfg (fetch s) s = .next t ∧ u = finishStep cfg s t :=
  stepThrough_cases cfg (execWith cfg) h

end Sys2Proof.Machine
end

