-- ==== Sys2Proof/Laws/PerInstr.lean ====
section
/-! SUPPORT. Statements about every instruction as syntax, one lemma a constructor. `LengthOfOpcode`: the opcode alone fixes how
many bytes an instruction has, by the format its row of 30_encoding.md (rules R99 to R104, R107) names. -/
namespace Sys2Proof.Laws

/-- The length by the format column of R99 to R102; every extended instruction has 2 bytes (R104), and so has STOP (R107). -/
def formatLength : Opcode → Nat
  | .ext _ => 2
  | .base b =>
    let x := b.toNat / 64
    let z := b.toNat % 8
    if b.toNat ∈ [0x01, 0x11, 0x21, 0x31, 0x08, 0xC2, 0xCA, 0xD2, 0xDA, 0xC3, 0xC4, 0xCC, 0xD4, 0xDC, 0xCD, 0xEA, 0xFA] then 3
    else if z = 6 ∧ (x = 0 ∨ x = 3) then 2
    else if b.toNat ∈ [0x10, 0x18, 0x20, 0x28, 0x30, 0x38, 0xE0, 0xE8, 0xF0, 0xF8] then 2
    else 1

/-- The instruction's length is the one its opcode's format has. -/
def LengthOfOpcode.Statement (i : Instr) : Prop := instrLength i = formatLength (opcodeOf i)

theorem LengthOfOpcode.nop : LengthOfOpcode.Statement .nop := rfl
theorem LengthOfOpcode.ld_BC_nn (nn : Word) : LengthOfOpcode.Statement (.ld_BC_nn nn) := rfl
theorem LengthOfOpcode.ld_atBC_A : LengthOfOpcode.Statement .ld_atBC_A := rfl
theorem LengthOfOpcode.inc_BC : LengthOfOpcode.Statement .inc_BC := rfl
theorem LengthOfOpcode.inc_B : LengthOfOpcode.Statement .inc_B := rfl
theorem LengthOfOpcode.dec_B : LengthOfOpcode.Statement .dec_B := rfl
theorem LengthOfOpcode.ld_B_n (n : Byte) : LengthOfOpcode.Statement (.ld_B_n n) := rfl
theorem LengthOfOpcode.rlca : LengthOfOpcode.Statement .rlca := rfl
theorem LengthOfOpcode.ld_atnn_SP (nn : Word) : LengthOfOpcode.Statement (.ld_atnn_SP nn) := rfl
theorem LengthOfOpcode.add_HL_BC : LengthOfOpcode.Statement .add_HL_BC := rfl
theorem LengthOfOpcode.ld_A_atBC : LengthOfOpcode.Statement .ld_A_atBC := rfl
theorem LengthOfOpcode.dec_BC : LengthOfOpcode.Statement .dec_BC := rfl
theorem LengthOfOpcode.inc_C : LengthOfOpcode.Statement .inc_C := rfl
theorem LengthOfOpcode.dec_C : LengthOfOpcode.Statement .dec_C := rfl
theorem LengthOfOpcode.ld_C_n (n : Byte) : LengthOfOpcode.Statement (.ld_C_n n) := rfl
theorem LengthOfOpcode.rrca : LengthOfOpcode.Statement .rrca := rfl
theorem LengthOfOpcode.stop (pad : Byte) : LengthOfOpcode.Statement (.stop pad) := rfl
theorem LengthOfOpcode.ld_DE_nn (nn : Word) : LengthOfOpcode.Statement (.ld_DE_nn nn) := rfl
theorem LengthOfOpcode.ld_atDE_A : LengthOfOpcode.Statement .ld_atDE_A := rfl
theorem LengthOfOpcode.inc_DE : LengthOfOpcode.Statement .inc_DE := rfl
theorem LengthOfOpcode.inc_D : LengthOfOpcode.Statement .inc_D := rfl
theorem LengthOfOpcode.dec_D : LengthOfOpcode.Statement .dec_D := rfl
theorem LengthOfOpcode.ld_D_n (n : Byte) : LengthOfOpcode.Statement (.ld_D_n n) := rfl
theorem LengthOfOpcode.rla : LengthOfOpcode.Statement .rla := rfl
theorem LengthOfOpcode.jr_e (e : Byte) : LengthOfOpcode.Statement (.jr_e e) := rfl
theorem LengthOfOpcode.add_HL_DE : LengthOfOpcode.Statement .add_HL_DE := rfl
theorem LengthOfOpcode.ld_A_atDE : LengthOfOpcode.Statement .ld_A_atDE := rfl
theorem LengthOfOpcode.dec_DE : LengthOfOpcode.Statement .dec_DE := rfl
theorem LengthOfOpcode.inc_E : LengthOfOpcode.Statement .inc_E := rfl
theorem LengthOfOpcode.dec_E : LengthOfOpcode.Statement .dec_E := rfl
theorem LengthOfOpcode.ld_E_n (n : Byte) : LengthOfOpcode.Statement (.ld_E_n n) := rfl
theorem LengthOfOpcode.rra : LengthOfOpcode.Statement .rra := rfl
theorem LengthOfOpcode.jr_NZ_e (e : Byte) : LengthOfOpcode.Statement (.jr_NZ_e e) := rfl
theorem LengthOfOpcode.ld_HL_nn (nn : Word) : LengthOfOpcode.Statement (.ld_HL_nn nn) := rfl
theorem LengthOfOpcode.ld_atHLinc_A : LengthOfOpcode.Statement .ld_atHLinc_A := rfl
theorem LengthOfOpcode.inc_HL : LengthOfOpcode.Statement .inc_HL := rfl
theorem LengthOfOpcode.inc_H : LengthOfOpcode.Statement .inc_H := rfl
theorem LengthOfOpcode.dec_H : LengthOfOpcode.Statement .dec_H := rfl
theorem LengthOfOpcode.ld_H_n (n : Byte) : LengthOfOpcode.Statement (.ld_H_n n) := rfl
theorem LengthOfOpcode.daa : LengthOfOpcode.Statement .daa := rfl
theorem LengthOfOpcode.jr_Z_e (e : Byte) : LengthOfOpcode.Statement (.jr_Z_e e) := rfl
theorem LengthOfOpcode.add_HL_HL : LengthOfOpcode.Statement .add_HL_HL := rfl
theorem LengthOfOpcode.ld_A_atHLinc : LengthOfOpcode.Statement .ld_A_atHLinc := rfl
theorem LengthOfOpcode.dec_HL : LengthOfOpcode.Statement .dec_HL := rfl
theorem LengthOfOpcode.inc_L : LengthOfOpcode.Statement .inc_L := rfl
theorem LengthOfOpcode.dec_L : LengthOfOpcode.Statement .dec_L := rfl
theorem LengthOfOpcode.ld_L_n (n : Byte) : LengthOfOpcode.Statement (.ld_L_n n) := rfl
theorem LengthOfOpcode.cpl : LengthOfOpcode.Statement .cpl := rfl
theorem LengthOfOpcode.jr_NC_e (e : Byte) : LengthOfOpcode.Statement (.jr_NC_e e) := rfl
theorem LengthOfOpcode.ld_SP_nn (nn : Word) : LengthOfOpcode.Statement (.ld_SP_nn nn) := rfl
theorem LengthOfOpcode.ld_atHLdec_A : LengthOfOpcode.Statement .ld_atHLdec_A := rfl
theorem LengthOfOpcode.inc_SP : LengthOfOpcode.Statement .inc_SP := rfl
theorem LengthOfOpcode.inc_atHL : LengthOfOpcode.Statement .inc_atHL := rfl
theorem LengthOfOpcode.dec_atHL : LengthOfOpcode.Statement .dec_atHL := rfl
theorem LengthOfOpcode.ld_atHL_n (n : Byte) : LengthOfOpcode.Statement (.ld_atHL_n n) := rfl
theorem LengthOfOpcode.scf : LengthOfOpcode.Statement .scf := rfl
theorem LengthOfOpcode.jr_C_e (e : Byte) : LengthOfOpcode.Statement (.jr_C_e e) := rfl
theorem LengthOfOpcode.add_HL_SP : LengthOfOpcode.Statement .add_HL_SP := rfl
theorem LengthOfOpcode.ld_A_atHLdec : LengthOfOpcode.Statement .ld_A_atHLdec := rfl
theorem LengthOfOpcode.dec_SP : LengthOfOpcode.Statement .dec_SP := rfl
theorem LengthOfOpcode.inc_A : LengthOfOpcode.Statement .inc_A := rfl
theorem LengthOfOpcode.dec_A : LengthOfOpcode.Statement .dec_A := rfl
theorem LengthOfOpcode.ld_A_n (n : Byte) : LengthOfOpcode.Statement (.ld_A_n n) := rfl
theorem LengthOfOpcode.ccf : LengthOfOpcode.Statement .ccf := rfl
theorem LengthOfOpcode.ld_B_B : LengthOfOpcode.Statement .ld_B_B := rfl
theorem LengthOfOpcode.ld_B_C : LengthOfOpcode.Statement .ld_B_C := rfl
theorem LengthOfOpcode.ld_B_D : LengthOfOpcode.Statement .ld_B_D := rfl
theorem LengthOfOpcode.ld_B_E : LengthOfOpcode.Statement .ld_B_E := rfl
theorem LengthOfOpcode.ld_B_H : LengthOfOpcode.Statement .ld_B_H := rfl
theorem LengthOfOpcode.ld_B_L : LengthOfOpcode.Statement .ld_B_L := rfl
theorem LengthOfOpcode.ld_B_atHL : LengthOfOpcode.Statement .ld_B_atHL := rfl
theorem LengthOfOpcode.ld_B_A : LengthOfOpcode.Statement .ld_B_A := rfl
theorem LengthOfOpcode.ld_C_B : LengthOfOpcode.Statement .ld_C_B := rfl
theorem LengthOfOpcode.ld_C_C : LengthOfOpcode.Statement .ld_C_C := rfl
theorem LengthOfOpcode.ld_C_D : LengthOfOpcode.Statement .ld_C_D := rfl
theorem LengthOfOpcode.ld_C_E : LengthOfOpcode.Statement .ld_C_E := rfl
theorem LengthOfOpcode.ld_C_H : LengthOfOpcode.Statement .ld_C_H := rfl
theorem LengthOfOpcode.ld_C_L : LengthOfOpcode.Statement .ld_C_L := rfl
theorem LengthOfOpcode.ld_C_atHL : LengthOfOpcode.Statement .ld_C_atHL := rfl
theorem LengthOfOpcode.ld_C_A : LengthOfOpcode.Statement .ld_C_A := rfl
theorem LengthOfOpcode.ld_D_B : LengthOfOpcode.Statement .ld_D_B := rfl
theorem LengthOfOpcode.ld_D_C : LengthOfOpcode.Statement .ld_D_C := rfl
theorem LengthOfOpcode.ld_D_D : LengthOfOpcode.Statement .ld_D_D := rfl
theorem LengthOfOpcode.ld_D_E : LengthOfOpcode.Statement .ld_D_E := rfl
theorem LengthOfOpcode.ld_D_H : LengthOfOpcode.Statement .ld_D_H := rfl
theorem LengthOfOpcode.ld_D_L : LengthOfOpcode.Statement .ld_D_L := rfl
theorem LengthOfOpcode.ld_D_atHL : LengthOfOpcode.Statement .ld_D_atHL := rfl
theorem LengthOfOpcode.ld_D_A : LengthOfOpcode.Statement .ld_D_A := rfl
theorem LengthOfOpcode.ld_E_B : LengthOfOpcode.Statement .ld_E_B := rfl
theorem LengthOfOpcode.ld_E_C : LengthOfOpcode.Statement .ld_E_C := rfl
theorem LengthOfOpcode.ld_E_D : LengthOfOpcode.Statement .ld_E_D := rfl
theorem LengthOfOpcode.ld_E_E : LengthOfOpcode.Statement .ld_E_E := rfl
theorem LengthOfOpcode.ld_E_H : LengthOfOpcode.Statement .ld_E_H := rfl
theorem LengthOfOpcode.ld_E_L : LengthOfOpcode.Statement .ld_E_L := rfl
theorem LengthOfOpcode.ld_E_atHL : LengthOfOpcode.Statement .ld_E_atHL := rfl
theorem LengthOfOpcode.ld_E_A : LengthOfOpcode.Statement .ld_E_A := rfl
theorem LengthOfOpcode.ld_H_B : LengthOfOpcode.Statement .ld_H_B := rfl
theorem LengthOfOpcode.ld_H_C : LengthOfOpcode.Statement .ld_H_C := rfl
theorem LengthOfOpcode.ld_H_D : LengthOfOpcode.Statement .ld_H_D := rfl
theorem LengthOfOpcode.ld_H_E : LengthOfOpcode.Statement .ld_H_E := rfl
theorem LengthOfOpcode.ld_H_H : LengthOfOpcode.Statement .ld_H_H := rfl
theorem LengthOfOpcode.ld_H_L : LengthOfOpcode.Statement .ld_H_L := rfl
theorem LengthOfOpcode.ld_H_atHL : LengthOfOpcode.Statement .ld_H_atHL := rfl
theorem LengthOfOpcode.ld_H_A : LengthOfOpcode.Statement .ld_H_A := rfl
theorem LengthOfOpcode.ld_L_B : LengthOfOpcode.Statement .ld_L_B := rfl
theorem LengthOfOpcode.ld_L_C : LengthOfOpcode.Statement .ld_L_C := rfl
theorem LengthOfOpcode.ld_L_D : LengthOfOpcode.Statement .ld_L_D := rfl
theorem LengthOfOpcode.ld_L_E : LengthOfOpcode.Statement .ld_L_E := rfl
theorem LengthOfOpcode.ld_L_H : LengthOfOpcode.Statement .ld_L_H := rfl
theorem LengthOfOpcode.ld_L_L : LengthOfOpcode.Statement .ld_L_L := rfl
theorem LengthOfOpcode.ld_L_atHL : LengthOfOpcode.Statement .ld_L_atHL := rfl
theorem LengthOfOpcode.ld_L_A : LengthOfOpcode.Statement .ld_L_A := rfl
theorem LengthOfOpcode.ld_atHL_B : LengthOfOpcode.Statement .ld_atHL_B := rfl
theorem LengthOfOpcode.ld_atHL_C : LengthOfOpcode.Statement .ld_atHL_C := rfl
theorem LengthOfOpcode.ld_atHL_D : LengthOfOpcode.Statement .ld_atHL_D := rfl
theorem LengthOfOpcode.ld_atHL_E : LengthOfOpcode.Statement .ld_atHL_E := rfl
theorem LengthOfOpcode.ld_atHL_H : LengthOfOpcode.Statement .ld_atHL_H := rfl
theorem LengthOfOpcode.ld_atHL_L : LengthOfOpcode.Statement .ld_atHL_L := rfl
theorem LengthOfOpcode.halt : LengthOfOpcode.Statement .halt := rfl
theorem LengthOfOpcode.ld_atHL_A : LengthOfOpcode.Statement .ld_atHL_A := rfl
theorem LengthOfOpcode.ld_A_B : LengthOfOpcode.Statement .ld_A_B := rfl
theorem LengthOfOpcode.ld_A_C : LengthOfOpcode.Statement .ld_A_C := rfl
theorem LengthOfOpcode.ld_A_D : LengthOfOpcode.Statement .ld_A_D := rfl
theorem LengthOfOpcode.ld_A_E : LengthOfOpcode.Statement .ld_A_E := rfl
theorem LengthOfOpcode.ld_A_H : LengthOfOpcode.Statement .ld_A_H := rfl
theorem LengthOfOpcode.ld_A_L : LengthOfOpcode.Statement .ld_A_L := rfl
theorem LengthOfOpcode.ld_A_atHL : LengthOfOpcode.Statement .ld_A_atHL := rfl
theorem LengthOfOpcode.ld_A_A : LengthOfOpcode.Statement .ld_A_A := rfl
theorem LengthOfOpcode.add_A_B : LengthOfOpcode.Statement .add_A_B := rfl
theorem LengthOfOpcode.add_A_C : LengthOfOpcode.Statement .add_A_C := rfl
theorem LengthOfOpcode.add_A_D : LengthOfOpcode.Statement .add_A_D := rfl
theorem LengthOfOpcode.add_A_E : LengthOfOpcode.Statement .add_A_E := rfl
theorem LengthOfOpcode.add_A_H : LengthOfOpcode.Statement .add_A_H := rfl
theorem LengthOfOpcode.add_A_L : LengthOfOpcode.Statement .add_A_L := rfl
theorem LengthOfOpcode.add_A_atHL : LengthOfOpcode.Statement .add_A_atHL := rfl
theorem LengthOfOpcode.add_A_A : LengthOfOpcode.Statement .add_A_A := rfl
theorem LengthOfOpcode.adc_A_B : LengthOfOpcode.Statement .adc_A_B := rfl
theorem LengthOfOpcode.adc_A_C : LengthOfOpcode.Statement .adc_A_C := rfl
theorem LengthOfOpcode.adc_A_D : LengthOfOpcode.Statement .adc_A_D := rfl
theorem LengthOfOpcode.adc_A_E : LengthOfOpcode.Statement .adc_A_E := rfl
theorem LengthOfOpcode.adc_A_H : LengthOfOpcode.Statement .adc_A_H := rfl
theorem LengthOfOpcode.adc_A_L : LengthOfOpcode.Statement .adc_A_L := rfl
theorem LengthOfOpcode.adc_A_atHL : LengthOfOpcode.Statement .adc_A_atHL := rfl
theorem LengthOfOpcode.adc_A_A : LengthOfOpcode.Statement .adc_A_A := rfl
theorem LengthOfOpcode.sub_B : LengthOfOpcode.Statement .sub_B := rfl
theorem LengthOfOpcode.sub_C : LengthOfOpcode.Statement .sub_C := rfl
theorem LengthOfOpcode.sub_D : LengthOfOpcode.Statement .sub_D := rfl
theorem LengthOfOpcode.sub_E : LengthOfOpcode.Statement .sub_E := rfl
theorem LengthOfOpcode.sub_H : LengthOfOpcode.Statement .sub_H := rfl
theorem LengthOfOpcode.sub_L : LengthOfOpcode.Statement .sub_L := rfl
theorem LengthOfOpcode.sub_atHL : LengthOfOpcode.Statement .sub_atHL := rfl
theorem LengthOfOpcode.sub_A : LengthOfOpcode.Statement .sub_A := rfl
theorem LengthOfOpcode.sbc_A_B : LengthOfOpcode.Statement .sbc_A_B := rfl
theorem LengthOfOpcode.sbc_A_C : LengthOfOpcode.Statement .sbc_A_C := rfl
theorem LengthOfOpcode.sbc_A_D : LengthOfOpcode.Statement .sbc_A_D := rfl
theorem LengthOfOpcode.sbc_A_E : LengthOfOpcode.Statement .sbc_A_E := rfl
theorem LengthOfOpcode.sbc_A_H : LengthOfOpcode.Statement .sbc_A_H := rfl
theorem LengthOfOpcode.sbc_A_L : LengthOfOpcode.Statement .sbc_A_L := rfl
theorem LengthOfOpcode.sbc_A_atHL : LengthOfOpcode.Statement .sbc_A_atHL := rfl
theorem LengthOfOpcode.sbc_A_A : LengthOfOpcode.Statement .sbc_A_A := rfl
theorem LengthOfOpcode.and_B : LengthOfOpcode.Statement .and_B := rfl
theorem LengthOfOpcode.and_C : LengthOfOpcode.Statement .and_C := rfl
theorem LengthOfOpcode.and_D : LengthOfOpcode.Statement .and_D := rfl
theorem LengthOfOpcode.and_E : LengthOfOpcode.Statement .and_E := rfl
theorem LengthOfOpcode.and_H : LengthOfOpcode.Statement .and_H := rfl
theorem LengthOfOpcode.and_L : LengthOfOpcode.Statement .and_L := rfl
theorem LengthOfOpcode.and_atHL : LengthOfOpcode.Statement .and_atHL := rfl
theorem LengthOfOpcode.and_A : LengthOfOpcode.Statement .and_A := rfl
theorem LengthOfOpcode.xor_B : LengthOfOpcode.Statement .xor_B := rfl
theorem LengthOfOpcode.xor_C : LengthOfOpcode.Statement .xor_C := rfl
theorem LengthOfOpcode.xor_D : LengthOfOpcode.Statement .xor_D := rfl
theorem LengthOfOpcode.xor_E : LengthOfOpcode.Statement .xor_E := rfl
theorem LengthOfOpcode.xor_H : LengthOfOpcode.Statement .xor_H := rfl
theorem LengthOfOpcode.xor_L : LengthOfOpcode.Statement .xor_L := rfl
theorem LengthOfOpcode.xor_atHL : LengthOfOpcode.Statement .xor_atHL := rfl
theorem LengthOfOpcode.xor_A : LengthOfOpcode.Statement .xor_A := rfl
theorem LengthOfOpcode.or_B : LengthOfOpcode.Statement .or_B := rfl
theorem LengthOfOpcode.or_C : LengthOfOpcode.Statement .or_C := rfl
theorem LengthOfOpcode.or_D : LengthOfOpcode.Statement .or_D := rfl
theorem LengthOfOpcode.or_E : LengthOfOpcode.Statement .or_E := rfl
theorem LengthOfOpcode.or_H : LengthOfOpcode.Statement .or_H := rfl
theorem LengthOfOpcode.or_L : LengthOfOpcode.Statement .or_L := rfl
theorem LengthOfOpcode.or_atHL : LengthOfOpcode.Statement .or_atHL := rfl
theorem LengthOfOpcode.or_A : LengthOfOpcode.Statement .or_A := rfl
theorem LengthOfOpcode.cp_B : LengthOfOpcode.Statement .cp_B := rfl
theorem LengthOfOpcode.cp_C : LengthOfOpcode.Statement .cp_C := rfl
theorem LengthOfOpcode.cp_D : LengthOfOpcode.Statement .cp_D := rfl
theorem LengthOfOpcode.cp_E : LengthOfOpcode.Statement .cp_E := rfl
theorem LengthOfOpcode.cp_H : LengthOfOpcode.Statement .cp_H := rfl
theorem LengthOfOpcode.cp_L : LengthOfOpcode.Statement .cp_L := rfl
theorem LengthOfOpcode.cp_atHL : LengthOfOpcode.Statement .cp_atHL := rfl
theorem LengthOfOpcode.cp_A : LengthOfOpcode.Statement .cp_A := rfl
theorem LengthOfOpcode.ret_NZ : LengthOfOpcode.Statement .ret_NZ := rfl
theorem LengthOfOpcode.pop_BC : LengthOfOpcode.Statement .pop_BC := rfl
theorem LengthOfOpcode.jp_NZ_nn (nn : Word) : LengthOfOpcode.Statement (.jp_NZ_nn nn) := rfl
theorem LengthOfOpcode.jp_nn (nn : Word) : LengthOfOpcode.Statement (.jp_nn nn) := rfl
theorem LengthOfOpcode.call_NZ_nn (nn : Word) : LengthOfOpcode.Statement (.call_NZ_nn nn) := rfl
theorem LengthOfOpcode.push_BC : LengthOfOpcode.Statement .push_BC := rfl
theorem LengthOfOpcode.add_A_n (n : Byte) : LengthOfOpcode.Statement (.add_A_n n) := rfl
theorem LengthOfOpcode.rst_00 : LengthOfOpcode.Statement .rst_00 := rfl
theorem LengthOfOpcode.ret_Z : LengthOfOpcode.Statement .ret_Z := rfl
theorem LengthOfOpcode.ret : LengthOfOpcode.Statement .ret := rfl
theorem LengthOfOpcode.jp_Z_nn (nn : Word) : LengthOfOpcode.Statement (.jp_Z_nn nn) := rfl
theorem LengthOfOpcode.prefix_CB (op2 : Byte) : LengthOfOpcode.Statement (.prefix_CB op2) := rfl
theorem LengthOfOpcode.call_Z_nn (nn : Word) : LengthOfOpcode.Statement (.call_Z_nn nn) := rfl
theorem LengthOfOpcode.call_nn (nn : Word) : LengthOfOpcode.Statement (.call_nn nn) := rfl
theorem LengthOfOpcode.adc_A_n (n : Byte) : LengthOfOpcode.Statement (.adc_A_n n) := rfl
theorem LengthOfOpcode.rst_08 : LengthOfOpcode.Statement .rst_08 := rfl
theorem LengthOfOpcode.ret_NC : LengthOfOpcode.Statement .ret_NC := rfl
theorem LengthOfOpcode.pop_DE : LengthOfOpcode.Statement .pop_DE := rfl
theorem LengthOfOpcode.jp_NC_nn (nn : Word) : LengthOfOpcode.Statement (.jp_NC_nn nn) := rfl
theorem LengthOfOpcode.invalid_D3 : LengthOfOpcode.Statement .invalid_D3 := rfl
theorem LengthOfOpcode.call_NC_nn (nn : Word) : LengthOfOpcode.Statement (.call_NC_nn nn) := rfl
theorem LengthOfOpcode.push_DE : LengthOfOpcode.Statement .push_DE := rfl
theorem LengthOfOpcode.sub_n (n : Byte) : LengthOfOpcode.Statement (.sub_n n) := rfl
theorem LengthOfOpcode.rst_10 : LengthOfOpcode.Statement .rst_10 := rfl
theorem LengthOfOpcode.ret_C : LengthOfOpcode.Statement .ret_C := rfl
theorem LengthOfOpcode.reti : LengthOfOpcode.Statement .reti := rfl
theorem LengthOfOpcode.jp_C_nn (nn : Word) : LengthOfOpcode.Statement (.jp_C_nn nn) := rfl
theorem LengthOfOpcode.invalid_DB : LengthOfOpcode.Statement .invalid_DB := rfl
theorem LengthOfOpcode.call_C_nn (nn : Word) : LengthOfOpcode.Statement (.call_C_nn nn) := rfl
theorem LengthOfOpcode.invalid_DD : LengthOfOpcode.Statement .invalid_DD := rfl
theorem LengthOfOpcode.sbc_A_n (n : Byte) : LengthOfOpcode.Statement (.sbc_A_n n) := rfl
theorem LengthOfOpcode.rst_18 : LengthOfOpcode.Statement .rst_18 := rfl
theorem LengthOfOpcode.ldh_atn_A (n : Byte) : LengthOfOpcode.Statement (.ldh_atn_A n) := rfl
theorem LengthOfOpcode.pop_HL : LengthOfOpcode.Statement .pop_HL := rfl
theorem LengthOfOpcode.ld_atC_A : LengthOfOpcode.Statement .ld_atC_A := rfl
theorem LengthOfOpcode.invalid_E3 : LengthOfOpcode.Statement .invalid_E3 := rfl
theorem LengthOfOpcode.invalid_E4 : LengthOfOpcode.Statement .invalid_E4 := rfl
theorem LengthOfOpcode.push_HL : LengthOfOpcode.Statement .push_HL := rfl
theorem LengthOfOpcode.and_n (n : Byte) : LengthOfOpcode.Statement (.and_n n) := rfl
theorem LengthOfOpcode.rst_20 : LengthOfOpcode.Statement .rst_20 := rfl
theorem LengthOfOpcode.add_SP_e (e : Byte) : LengthOfOpcode.Statement (.add_SP_e e) := rfl
theorem LengthOfOpcode.jp_HL : LengthOfOpcode.Statement .jp_HL := rfl
theorem LengthOfOpcode.ld_atnn_A (nn : Word) : LengthOfOpcode.Statement (.ld_atnn_A nn) := rfl
theorem LengthOfOpcode.invalid_EB : LengthOfOpcode.Statement .invalid_EB := rfl
theorem LengthOfOpcode.invalid_EC : LengthOfOpcode.Statement .invalid_EC := rfl
theorem LengthOfOpcode.invalid_ED : LengthOfOpcode.Statement .invalid_ED := rfl
theorem LengthOfOpcode.xor_n (n : Byte) : LengthOfOpcode.Statement (.xor_n n) := rfl
theorem LengthOfOpcode.rst_28 : LengthOfOpcode.Statement .rst_28 := rfl
theorem LengthOfOpcode.ldh_A_atn (n : Byte) : LengthOfOpcode.Statement (.ldh_A_atn n) := rfl
theorem LengthOfOpcode.pop_AF : LengthOfOpcode.Statement .pop_AF := rfl
theorem LengthOfOpcode.ld_A_atC : LengthOfOpcode.Statement .ld_A_atC := rfl
theorem LengthOfOpcode.di : LengthOfOpcode.Statement .di := rfl
theorem LengthOfOpcode.invalid_F4 : LengthOfOpcode.Statement .invalid_F4 := rfl
theorem LengthOfOpcode.push_AF : LengthOfOpcode.Statement .push_AF := rfl
theorem LengthOfOpcode.or_n (n : Byte) : LengthOfOpcode.Statement (.or_n n) := rfl
theorem LengthOfOpcode.rst_30 : LengthOfOpcode.Statement .rst_30 := rfl
theorem LengthOfOpcode.ld_HL_SPe (e : Byte) : LengthOfOpcode.Statement (.ld_HL_SPe e) := rfl
theorem LengthOfOpcode.ld_SP_HL : LengthOfOpcode.Statement .ld_SP_HL := rfl
theorem LengthOfOpcode.ld_A_atnn (nn : Word) : LengthOfOpcode.Statement (.ld_A_atnn nn) := rfl
theorem LengthOfOpcode.ei : LengthOfOpcode.Statement .ei := rfl
theorem LengthOfOpcode.invalid_FC : LengthOfOpcode.Statement .invalid_FC := rfl
theorem LengthOfOpcode.invalid_FD : LengthOfOpcode.Statement .invalid_FD := rfl
theorem LengthOfOpcode.cp_n (n : Byte) : LengthOfOpcode.Statement (.cp_n n) := rfl
theorem LengthOfOpcode.rst_38 : LengthOfOpcode.Statement .rst_38 := rfl
theorem LengthOfOpcode.rlc_B : LengthOfOpcode.Statement .rlc_B := rfl
theorem LengthOfOpcode.rlc_C : LengthOfOpcode.Statement .rlc_C := rfl
theorem LengthOfOpcode.rlc_D : LengthOfOpcode.Statement .rlc_D := rfl
theorem LengthOfOpcode.rlc_E : LengthOfOpcode.Statement .rlc_E := rfl
theorem LengthOfOpcode.rlc_H : LengthOfOpcode.Statement .rlc_H := rfl
theorem LengthOfOpcode.rlc_L : LengthOfOpcode.Statement .rlc_L := rfl
theorem LengthOfOpcode.rlc_atHL : LengthOfOpcode.Statement .rlc_atHL := rfl
theorem LengthOfOpcode.rlc_A : LengthOfOpcode.Statement .rlc_A := rfl
theorem LengthOfOpcode.rrc_B : LengthOfOpcode.Statement .rrc_B := rfl
theorem LengthOfOpcode.rrc_C : LengthOfOpcode.Statement .rrc_C := rfl
theorem LengthOfOpcode.rrc_D : LengthOfOpcode.Statement .rrc_D := rfl
theorem LengthOfOpcode.rrc_E : LengthOfOpcode.Statement .rrc_E := rfl
theorem LengthOfOpcode.rrc_H : LengthOfOpcode.Statement .rrc_H := rfl
theorem LengthOfOpcode.rrc_L : LengthOfOpcode.Statement .rrc_L := rfl
theorem LengthOfOpcode.rrc_atHL : LengthOfOpcode.Statement .rrc_atHL := rfl
theorem LengthOfOpcode.rrc_A : LengthOfOpcode.Statement .rrc_A := rfl
theorem LengthOfOpcode.rl_B : LengthOfOpcode.Statement .rl_B := rfl
theorem LengthOfOpcode.rl_C : LengthOfOpcode.Statement .rl_C := rfl
theorem LengthOfOpcode.rl_D : LengthOfOpcode.Statement .rl_D := rfl
theorem LengthOfOpcode.rl_E : LengthOfOpcode.Statement .rl_E := rfl
theorem LengthOfOpcode.rl_H : LengthOfOpcode.Statement .rl_H := rfl
theorem LengthOfOpcode.rl_L : LengthOfOpcode.Statement .rl_L := rfl
theorem LengthOfOpcode.rl_atHL : LengthOfOpcode.Statement .rl_atHL := rfl
theorem LengthOfOpcode.rl_A : LengthOfOpcode.Statement .rl_A := rfl
theorem LengthOfOpcode.rr_B : LengthOfOpcode.Statement .rr_B := rfl
theorem LengthOfOpcode.rr_C : LengthOfOpcode.Statement .rr_C := rfl
theorem LengthOfOpcode.rr_D : LengthOfOpcode.Statement .rr_D := rfl
theorem LengthOfOpcode.rr_E : LengthOfOpcode.Statement .rr_E := rfl
theorem LengthOfOpcode.rr_H : LengthOfOpcode.Statement .rr_H := rfl
theorem LengthOfOpcode.rr_L : LengthOfOpcode.Statement .rr_L := rfl
theorem LengthOfOpcode.rr_atHL : LengthOfOpcode.Statement .rr_atHL := rfl
theorem LengthOfOpcode.rr_A : LengthOfOpcode.Statement .rr_A := rfl
theorem LengthOfOpcode.sla_B : LengthOfOpcode.Statement .sla_B := rfl
theorem LengthOfOpcode.sla_C : LengthOfOpcode.Statement .sla_C := rfl
theorem LengthOfOpcode.sla_D : LengthOfOpcode.Statement .sla_D := rfl
theorem LengthOfOpcode.sla_E : LengthOfOpcode.Statement .sla_E := rfl
theorem LengthOfOpcode.sla_H : LengthOfOpcode.Statement .sla_H := rfl
theorem LengthOfOpcode.sla_L : LengthOfOpcode.Statement .sla_L := rfl
theorem LengthOfOpcode.sla_atHL : LengthOfOpcode.Statement .sla_atHL := rfl
theorem LengthOfOpcode.sla_A : LengthOfOpcode.Statement .sla_A := rfl
theorem LengthOfOpcode.sra_B : LengthOfOpcode.Statement .sra_B := rfl
theorem LengthOfOpcode.sra_C : LengthOfOpcode.Statement .sra_C := rfl
theorem LengthOfOpcode.sra_D : LengthOfOpcode.Statement .sra_D := rfl
theorem LengthOfOpcode.sra_E : LengthOfOpcode.Statement .sra_E := rfl
theorem LengthOfOpcode.sra_H : LengthOfOpcode.Statement .sra_H := rfl
theorem LengthOfOpcode.sra_L : LengthOfOpcode.Statement .sra_L := rfl
theorem LengthOfOpcode.sra_atHL : LengthOfOpcode.Statement .sra_atHL := rfl
theorem LengthOfOpcode.sra_A : LengthOfOpcode.Statement .sra_A := rfl
theorem LengthOfOpcode.swap_B : LengthOfOpcode.Statement .swap_B := rfl
theorem LengthOfOpcode.swap_C : LengthOfOpcode.Statement .swap_C := rfl
theorem LengthOfOpcode.swap_D : LengthOfOpcode.Statement .swap_D := rfl
theorem LengthOfOpcode.swap_E : LengthOfOpcode.Statement .swap_E := rfl
theorem LengthOfOpcode.swap_H : LengthOfOpcode.Statement .swap_H := rfl
theorem LengthOfOpcode.swap_L : LengthOfOpcode.Statement .swap_L := rfl
theorem LengthOfOpcode.swap_atHL : LengthOfOpcode.Statement .swap_atHL := rfl
theorem LengthOfOpcode.swap_A : LengthOfOpcode.Statement .swap_A := rfl
theorem LengthOfOpcode.srl_B : LengthOfOpcode.Statement .srl_B := rfl
theorem LengthOfOpcode.srl_C : LengthOfOpcode.Statement .srl_C := rfl
theorem LengthOfOpcode.srl_D : LengthOfOpcode.Statement .srl_D := rfl
theorem LengthOfOpcode.srl_E : LengthOfOpcode.Statement .srl_E := rfl
theorem LengthOfOpcode.srl_H : LengthOfOpcode.Statement .srl_H := rfl
theorem LengthOfOpcode.srl_L : LengthOfOpcode.Statement .srl_L := rfl
theorem LengthOfOpcode.srl_atHL : LengthOfOpcode.Statement .srl_atHL := rfl
theorem LengthOfOpcode.srl_A : LengthOfOpcode.Statement .srl_A := rfl
theorem LengthOfOpcode.bit_0_B : LengthOfOpcode.Statement .bit_0_B := rfl
theorem LengthOfOpcode.bit_0_C : LengthOfOpcode.Statement .bit_0_C := rfl
theorem LengthOfOpcode.bit_0_D : LengthOfOpcode.Statement .bit_0_D := rfl
theorem LengthOfOpcode.bit_0_E : LengthOfOpcode.Statement .bit_0_E := rfl
theorem LengthOfOpcode.bit_0_H : LengthOfOpcode.Statement .bit_0_H := rfl
theorem LengthOfOpcode.bit_0_L : LengthOfOpcode.Statement .bit_0_L := rfl
theorem LengthOfOpcode.bit_0_atHL : LengthOfOpcode.Statement .bit_0_atHL := rfl
theorem LengthOfOpcode.bit_0_A : LengthOfOpcode.Statement .bit_0_A := rfl
theorem LengthOfOpcode.bit_1_B : LengthOfOpcode.Statement .bit_1_B := rfl
theorem LengthOfOpcode.bit_1_C : LengthOfOpcode.Statement .bit_1_C := rfl
theorem LengthOfOpcode.bit_1_D : LengthOfOpcode.Statement .bit_1_D := rfl
theorem LengthOfOpcode.bit_1_E : LengthOfOpcode.Statement .bit_1_E := rfl
theorem LengthOfOpcode.bit_1_H : LengthOfOpcode.Statement .bit_1_H := rfl
theorem LengthOfOpcode.bit_1_L : LengthOfOpcode.Statement .bit_1_L := rfl
theorem LengthOfOpcode.bit_1_atHL : LengthOfOpcode.Statement .bit_1_atHL := rfl
theorem LengthOfOpcode.bit_1_A : LengthOfOpcode.Statement .bit_1_A := rfl
theorem LengthOfOpcode.bit_2_B : LengthOfOpcode.Statement .bit_2_B := rfl
theorem LengthOfOpcode.bit_2_C : LengthOfOpcode.Statement .bit_2_C := rfl
theorem LengthOfOpcode.bit_2_D : LengthOfOpcode.Statement .bit_2_D := rfl
theorem LengthOfOpcode.bit_2_E : LengthOfOpcode.Statement .bit_2_E := rfl
theorem LengthOfOpcode.bit_2_H : LengthOfOpcode.Statement .bit_2_H := rfl
theorem LengthOfOpcode.bit_2_L : LengthOfOpcode.Statement .bit_2_L := rfl
theorem LengthOfOpcode.bit_2_atHL : LengthOfOpcode.Statement .bit_2_atHL := rfl
theorem LengthOfOpcode.bit_2_A : LengthOfOpcode.Statement .bit_2_A := rfl
theorem LengthOfOpcode.bit_3_B : LengthOfOpcode.Statement .bit_3_B := rfl
theorem LengthOfOpcode.bit_3_C : LengthOfOpcode.Statement .bit_3_C := rfl
theorem LengthOfOpcode.bit_3_D : LengthOfOpcode.Statement .bit_3_D := rfl
theorem LengthOfOpcode.bit_3_E : LengthOfOpcode.Statement .bit_3_E := rfl
theorem LengthOfOpcode.bit_3_H : LengthOfOpcode.Statement .bit_3_H := rfl
theorem LengthOfOpcode.bit_3_L : LengthOfOpcode.Statement .bit_3_L := rfl
theorem LengthOfOpcode.bit_3_atHL : LengthOfOpcode.Statement .bit_3_atHL := rfl
theorem LengthOfOpcode.bit_3_A : LengthOfOpcode.Statement .bit_3_A := rfl
theorem LengthOfOpcode.bit_4_B : LengthOfOpcode.Statement .bit_4_B := rfl
theorem LengthOfOpcode.bit_4_C : LengthOfOpcode.Statement .bit_4_C := rfl
theorem LengthOfOpcode.bit_4_D : LengthOfOpcode.Statement .bit_4_D := rfl
theorem LengthOfOpcode.bit_4_E : LengthOfOpcode.Statement .bit_4_E := rfl
theorem LengthOfOpcode.bit_4_H : LengthOfOpcode.Statement .bit_4_H := rfl
theorem LengthOfOpcode.bit_4_L : LengthOfOpcode.Statement .bit_4_L := rfl
theorem LengthOfOpcode.bit_4_atHL : LengthOfOpcode.Statement .bit_4_atHL := rfl
theorem LengthOfOpcode.bit_4_A : LengthOfOpcode.Statement .bit_4_A := rfl
theorem LengthOfOpcode.bit_5_B : LengthOfOpcode.Statement .bit_5_B := rfl
theorem LengthOfOpcode.bit_5_C : LengthOfOpcode.Statement .bit_5_C := rfl
theorem LengthOfOpcode.bit_5_D : LengthOfOpcode.Statement .bit_5_D := rfl
theorem LengthOfOpcode.bit_5_E : LengthOfOpcode.Statement .bit_5_E := rfl
theorem LengthOfOpcode.bit_5_H : LengthOfOpcode.Statement .bit_5_H := rfl
theorem LengthOfOpcode.bit_5_L : LengthOfOpcode.Statement .bit_5_L := rfl
theorem LengthOfOpcode.bit_5_atHL : LengthOfOpcode.Statement .bit_5_atHL := rfl
theorem LengthOfOpcode.bit_5_A : LengthOfOpcode.Statement .bit_5_A := rfl
theorem LengthOfOpcode.bit_6_B : LengthOfOpcode.Statement .bit_6_B := rfl
theorem LengthOfOpcode.bit_6_C : LengthOfOpcode.Statement .bit_6_C := rfl
theorem LengthOfOpcode.bit_6_D : LengthOfOpcode.Statement .bit_6_D := rfl
theorem LengthOfOpcode.bit_6_E : LengthOfOpcode.Statement .bit_6_E := rfl
theorem LengthOfOpcode.bit_6_H : LengthOfOpcode.Statement .bit_6_H := rfl
theorem LengthOfOpcode.bit_6_L : LengthOfOpcode.Statement .bit_6_L := rfl
theorem LengthOfOpcode.bit_6_atHL : LengthOfOpcode.Statement .bit_6_atHL := rfl
theorem LengthOfOpcode.bit_6_A : LengthOfOpcode.Statement .bit_6_A := rfl
theorem LengthOfOpcode.bit_7_B : LengthOfOpcode.Statement .bit_7_B := rfl
theorem LengthOfOpcode.bit_7_C : LengthOfOpcode.Statement .bit_7_C := rfl
theorem LengthOfOpcode.bit_7_D : LengthOfOpcode.Statement .bit_7_D := rfl
theorem LengthOfOpcode.bit_7_E : LengthOfOpcode.Statement .bit_7_E := rfl
theorem LengthOfOpcode.bit_7_H : LengthOfOpcode.Statement .bit_7_H := rfl
theorem LengthOfOpcode.bit_7_L : LengthOfOpcode.Statement .bit_7_L := rfl
theorem LengthOfOpcode.bit_7_atHL : LengthOfOpcode.Statement .bit_7_atHL := rfl
theorem LengthOfOpcode.bit_7_A : LengthOfOpcode.Statement .bit_7_A := rfl
theorem LengthOfOpcode.res_0_B : LengthOfOpcode.Statement .res_0_B := rfl
theorem LengthOfOpcode.res_0_C : LengthOfOpcode.Statement .res_0_C := rfl
theorem LengthOfOpcode.res_0_D : LengthOfOpcode.Statement .res_0_D := rfl
theorem LengthOfOpcode.res_0_E : LengthOfOpcode.Statement .res_0_E := rfl
theorem LengthOfOpcode.res_0_H : LengthOfOpcode.Statement .res_0_H := rfl
theorem LengthOfOpcode.res_0_L : LengthOfOpcode.Statement .res_0_L := rfl
theorem LengthOfOpcode.res_0_atHL : LengthOfOpcode.Statement .res_0_atHL := rfl
theorem LengthOfOpcode.res_0_A : LengthOfOpcode.Statement .res_0_A := rfl
theorem LengthOfOpcode.res_1_B : LengthOfOpcode.Statement .res_1_B := rfl
theorem LengthOfOpcode.res_1_C : LengthOfOpcode.Statement .res_1_C := rfl
theorem LengthOfOpcode.res_1_D : LengthOfOpcode.Statement .res_1_D := rfl
theorem LengthOfOpcode.res_1_E : LengthOfOpcode.Statement .res_1_E := rfl
theorem LengthOfOpcode.res_1_H : LengthOfOpcode.Statement .res_1_H := rfl
theorem LengthOfOpcode.res_1_L : LengthOfOpcode.Statement .res_1_L := rfl
theorem LengthOfOpcode.res_1_atHL : LengthOfOpcode.Statement .res_1_atHL := rfl
theorem LengthOfOpcode.res_1_A : LengthOfOpcode.Statement .res_1_A := rfl
theorem LengthOfOpcode.res_2_B : LengthOfOpcode.Statement .res_2_B := rfl
theorem LengthOfOpcode.res_2_C : LengthOfOpcode.Statement .res_2_C := rfl
theorem LengthOfOpcode.res_2_D : LengthOfOpcode.Statement .res_2_D := rfl
theorem LengthOfOpcode.res_2_E : LengthOfOpcode.Statement .res_2_E := rfl
theorem LengthOfOpcode.res_2_H : LengthOfOpcode.Statement .res_2_H := rfl
theorem LengthOfOpcode.res_2_L : LengthOfOpcode.Statement .res_2_L := rfl
theorem LengthOfOpcode.res_2_atHL : LengthOfOpcode.Statement .res_2_atHL := rfl
theorem LengthOfOpcode.res_2_A : LengthOfOpcode.Statement .res_2_A := rfl
theorem LengthOfOpcode.res_3_B : LengthOfOpcode.Statement .res_3_B := rfl
theorem LengthOfOpcode.res_3_C : LengthOfOpcode.Statement .res_3_C := rfl
theorem LengthOfOpcode.res_3_D : LengthOfOpcode.Statement .res_3_D := rfl
theorem LengthOfOpcode.res_3_E : LengthOfOpcode.Statement .res_3_E := rfl
theorem LengthOfOpcode.res_3_H : LengthOfOpcode.Statement .res_3_H := rfl
theorem LengthOfOpcode.res_3_L : LengthOfOpcode.Statement .res_3_L := rfl
theorem LengthOfOpcode.res_3_atHL : LengthOfOpcode.Statement .res_3_atHL := rfl
theorem LengthOfOpcode.res_3_A : LengthOfOpcode.Statement .res_3_A := rfl
theorem LengthOfOpcode.res_4_B : LengthOfOpcode.Statement .res_4_B := rfl
theorem LengthOfOpcode.res_4_C : LengthOfOpcode.Statement .res_4_C := rfl
theorem LengthOfOpcode.res_4_D : LengthOfOpcode.Statement .res_4_D := rfl
theorem LengthOfOpcode.res_4_E : LengthOfOpcode.Statement .res_4_E := rfl
theorem LengthOfOpcode.res_4_H : LengthOfOpcode.Statement .res_4_H := rfl
theorem LengthOfOpcode.res_4_L : LengthOfOpcode.Statement .res_4_L := rfl
theorem LengthOfOpcode.res_4_atHL : LengthOfOpcode.Statement .res_4_atHL := rfl
theorem LengthOfOpcode.res_4_A : LengthOfOpcode.Statement .res_4_A := rfl
theorem LengthOfOpcode.res_5_B : LengthOfOpcode.Statement .res_5_B := rfl
theorem LengthOfOpcode.res_5_C : LengthOfOpcode.Statement .res_5_C := rfl
theorem LengthOfOpcode.res_5_D : LengthOfOpcode.Statement .res_5_D := rfl
theorem LengthOfOpcode.res_5_E : LengthOfOpcode.Statement .res_5_E := rfl
theorem LengthOfOpcode.res_5_H : LengthOfOpcode.Statement .res_5_H := rfl
theorem LengthOfOpcode.res_5_L : LengthOfOpcode.Statement .res_5_L := rfl
theorem LengthOfOpcode.res_5_atHL : LengthOfOpcode.Statement .res_5_atHL := rfl
theorem LengthOfOpcode.res_5_A : LengthOfOpcode.Statement .res_5_A := rfl
theorem LengthOfOpcode.res_6_B : LengthOfOpcode.Statement .res_6_B := rfl
theorem LengthOfOpcode.res_6_C : LengthOfOpcode.Statement .res_6_C := rfl
theorem LengthOfOpcode.res_6_D : LengthOfOpcode.Statement .res_6_D := rfl
theorem LengthOfOpcode.res_6_E : LengthOfOpcode.Statement .res_6_E := rfl
theorem LengthOfOpcode.res_6_H : LengthOfOpcode.Statement .res_6_H := rfl
theorem LengthOfOpcode.res_6_L : LengthOfOpcode.Statement .res_6_L := rfl
theorem LengthOfOpcode.res_6_atHL : LengthOfOpcode.Statement .res_6_atHL := rfl
theorem LengthOfOpcode.res_6_A : LengthOfOpcode.Statement .res_6_A := rfl
theorem LengthOfOpcode.res_7_B : LengthOfOpcode.Statement .res_7_B := rfl
theorem LengthOfOpcode.res_7_C : LengthOfOpcode.Statement .res_7_C := rfl
theorem LengthOfOpcode.res_7_D : LengthOfOpcode.Statement .res_7_D := rfl
theorem LengthOfOpcode.res_7_E : LengthOfOpcode.Statement .res_7_E := rfl
theorem LengthOfOpcode.res_7_H : LengthOfOpcode.Statement .res_7_H := rfl
theorem LengthOfOpcode.res_7_L : LengthOfOpcode.Statement .res_7_L := rfl
theorem LengthOfOpcode.res_7_atHL : LengthOfOpcode.Statement .res_7_atHL := rfl
theorem LengthOfOpcode.res_7_A : LengthOfOpcode.Statement .res_7_A := rfl
theorem LengthOfOpcode.set_0_B : LengthOfOpcode.Statement .set_0_B := rfl
theorem LengthOfOpcode.set_0_C : LengthOfOpcode.Statement .set_0_C := rfl
theorem LengthOfOpcode.set_0_D : LengthOfOpcode.Statement .set_0_D := rfl
theorem LengthOfOpcode.set_0_E : LengthOfOpcode.Statement .set_0_E := rfl
theorem LengthOfOpcode.set_0_H : LengthOfOpcode.Statement .set_0_H := rfl
theorem LengthOfOpcode.set_0_L : LengthOfOpcode.Statement .set_0_L := rfl
theorem LengthOfOpcode.set_0_atHL : LengthOfOpcode.Statement .set_0_atHL := rfl
theorem LengthOfOpcode.set_0_A : LengthOfOpcode.Statement .set_0_A := rfl
theorem LengthOfOpcode.set_1_B : LengthOfOpcode.Statement .set_1_B := rfl
theorem LengthOfOpcode.set_1_C : LengthOfOpcode.Statement .set_1_C := rfl
theorem LengthOfOpcode.set_1_D : LengthOfOpcode.Statement .set_1_D := rfl
theorem LengthOfOpcode.set_1_E : LengthOfOpcode.Statement .set_1_E := rfl
theorem LengthOfOpcode.set_1_H : LengthOfOpcode.Statement .set_1_H := rfl
theorem LengthOfOpcode.set_1_L : LengthOfOpcode.Statement .set_1_L := rfl
theorem LengthOfOpcode.set_1_atHL : LengthOfOpcode.Statement .set_1_atHL := rfl
theorem LengthOfOpcode.set_1_A : LengthOfOpcode.Statement .set_1_A := rfl
theorem LengthOfOpcode.set_2_B : LengthOfOpcode.Statement .set_2_B := rfl
theorem LengthOfOpcode.set_2_C : LengthOfOpcode.Statement .set_2_C := rfl
theorem LengthOfOpcode.set_2_D : LengthOfOpcode.Statement .set_2_D := rfl
theorem LengthOfOpcode.set_2_E : LengthOfOpcode.Statement .set_2_E := rfl
theorem LengthOfOpcode.set_2_H : LengthOfOpcode.Statement .set_2_H := rfl
theorem LengthOfOpcode.set_2_L : LengthOfOpcode.Statement .set_2_L := rfl
theorem LengthOfOpcode.set_2_atHL : LengthOfOpcode.Statement .set_2_atHL := rfl
theorem LengthOfOpcode.set_2_A : LengthOfOpcode.Statement .set_2_A := rfl
theorem LengthOfOpcode.set_3_B : LengthOfOpcode.Statement .set_3_B := rfl
theorem LengthOfOpcode.set_3_C : LengthOfOpcode.Statement .set_3_C := rfl
theorem LengthOfOpcode.set_3_D : LengthOfOpcode.Statement .set_3_D := rfl
theorem LengthOfOpcode.set_3_E : LengthOfOpcode.Statement .set_3_E := rfl
theorem LengthOfOpcode.set_3_H : LengthOfOpcode.Statement .set_3_H := rfl
theorem LengthOfOpcode.set_3_L : LengthOfOpcode.Statement .set_3_L := rfl
theorem LengthOfOpcode.set_3_atHL : LengthOfOpcode.Statement .set_3_atHL := rfl
theorem LengthOfOpcode.set_3_A : LengthOfOpcode.Statement .set_3_A := rfl
theorem LengthOfOpcode.set_4_B : LengthOfOpcode.Statement .set_4_B := rfl
theorem LengthOfOpcode.set_4_C : LengthOfOpcode.Statement .set_4_C := rfl
theorem LengthOfOpcode.set_4_D : LengthOfOpcode.Statement .set_4_D := rfl
theorem LengthOfOpcode.set_4_E : LengthOfOpcode.Statement .set_4_E := rfl
theorem LengthOfOpcode.set_4_H : LengthOfOpcode.Statement .set_4_H := rfl
theorem LengthOfOpcode.set_4_L : LengthOfOpcode.Statement .set_4_L := rfl
theorem LengthOfOpcode.set_4_atHL : LengthOfOpcode.Statement .set_4_atHL := rfl
theorem LengthOfOpcode.set_4_A : LengthOfOpcode.Statement .set_4_A := rfl
theorem LengthOfOpcode.set_5_B : LengthOfOpcode.Statement .set_5_B := rfl
theorem LengthOfOpcode.set_5_C : LengthOfOpcode.Statement .set_5_C := rfl
theorem LengthOfOpcode.set_5_D : LengthOfOpcode.Statement .set_5_D := rfl
theorem LengthOfOpcode.set_5_E : LengthOfOpcode.Statement .set_5_E := rfl
theorem LengthOfOpcode.set_5_H : LengthOfOpcode.Statement .set_5_H := rfl
theorem LengthOfOpcode.set_5_L : LengthOfOpcode.Statement .set_5_L := rfl
theorem LengthOfOpcode.set_5_atHL : LengthOfOpcode.Statement .set_5_atHL := rfl
theorem LengthOfOpcode.set_5_A : LengthOfOpcode.Statement .set_5_A := rfl
theorem LengthOfOpcode.set_6_B : LengthOfOpcode.Statement .set_6_B := rfl
theorem LengthOfOpcode.set_6_C : LengthOfOpcode.Statement .set_6_C := rfl
theorem LengthOfOpcode.set_6_D : LengthOfOpcode.Statement .set_6_D := rfl
theorem LengthOfOpcode.set_6_E : LengthOfOpcode.Statement .set_6_E := rfl
theorem LengthOfOpcode.set_6_H : LengthOfOpcode.Statement .set_6_H := rfl
theorem LengthOfOpcode.set_6_L : LengthOfOpcode.Statement .set_6_L := rfl
theorem LengthOfOpcode.set_6_atHL : LengthOfOpcode.Statement .set_6_atHL := rfl
theorem LengthOfOpcode.set_6_A : LengthOfOpcode.Statement .set_6_A := rfl
theorem LengthOfOpcode.set_7_B : LengthOfOpcode.Statement .set_7_B := rfl
theorem LengthOfOpcode.set_7_C : LengthOfOpcode.Statement .set_7_C := rfl
theorem LengthOfOpcode.set_7_D : LengthOfOpcode.Statement .set_7_D := rfl
theorem LengthOfOpcode.set_7_E : LengthOfOpcode.Statement .set_7_E := rfl
theorem LengthOfOpcode.set_7_H : LengthOfOpcode.Statement .set_7_H := rfl
theorem LengthOfOpcode.set_7_L : LengthOfOpcode.Statement .set_7_L := rfl
theorem LengthOfOpcode.set_7_atHL : LengthOfOpcode.Statement .set_7_atHL := rfl
theorem LengthOfOpcode.set_7_A : LengthOfOpcode.Statement .set_7_A := rfl

end Sys2Proof.Laws
end

