-- ==== Sys2Proof/Laws/Unloaded.lean ====
section
/-! SUPPORT. The run of an unloaded core from reset (46_system.md rule R255, 70_reset_and_hazards.md rule R322; log 25): NOPs, one a byte,
up to the divider's address, and what the step rules fetch there. `Unloaded n` says everything about the state after n steps that the
run depends on. -/
namespace Sys2Proof.Machine

/-- A zero byte at PC is a NOP, whatever follows it (R99). -/
theorem fetch_zero {s : State} (h : s.rd s.pc = 0) : fetch s = .nop := by
  rw [fetch, h]
  rfl

/-- The state `n` NOPs after reset with nothing loaded: PC has moved `n` bytes, the divider and its accumulator together count the
cycles (R290), and no byte of memory but DIV, STAT and LY has left 0. -/
structure Unloaded (n : Nat) (s : State) : Prop where
  pc : s.pc = BitVec.ofNat 16 n
  running : s.run = .running
  cycles : s.cycles = 4 * n
  registers : ∀ r, s.reg r = 0
  divider : 256 * (s.rd config.addrDiv).toNat + s.divAcc.toNat = 4 * n % 65536
  quiet : ∀ x : Word, x ≠ config.addrDiv → x ≠ config.addrStat → x ≠ config.addrLy → s.rd x = 0

theorem unloaded_reset : Unloaded 0 State.reset where
  pc := rfl
  running := rfl
  cycles := rfl
  registers r := by cases r <;> rfl
  divider := rfl
  quiet _ _ _ _ := rfl

/-- One step below the divider's address is a NOP, and leaves the same kind of state. -/
theorem unloaded_step {n : Nat} {s : State} (h : Unloaded n s) (hn : n < 0xFF04) :
    fetch s = .nop ∧ ∃ t, step s = .next t ∧ Unloaded (n + 1) t := by
  have hz : s.rd s.pc = 0 := by
    rw [h.pc]
    apply h.quiet <;> · rw [Ne, ← BitVec.toNat_inj, BitVec.toNat_ofNat, Nat.mod_eq_of_lt (by omega)]; simp [config]; omega
  have hf := fetch_zero hz
  refine ⟨hf, _, step_of_exec h.running (by rw [hf, exec_eq_nop]), ?_⟩
  have hc : (retireWith 1 4 s).cycles - s.cycles = 4 := Nat.add_sub_cancel_left ..
  rw [hc]
  have hr (x : Word) : (retireWith 1 4 s).rd x = s.rd x := rfl
  have hd : (retireWith 1 4 s).divAcc = s.divAcc := rfl
  have htac : (timerDivider config 4 (retireWith 1 4 s)).rd config.addrTac = 0 := by
    rw [timerDivider_rd, if_neg (by simp [config]), hr]
    exact h.quiet _ (by decide) (by decide) (by decide)
  have ht : timerIncrease config 4 (retireWith 1 4 s) = timerDivider config 4 (retireWith 1 4 s) :=
    timerIncrease_off _ _ _ (by rw [htac]; decide)
  have hrd (x : Word) (hs : x ≠ config.addrStat) (hl : x ≠ config.addrLy) :
      (displayUpdate config 4 (timerIncrease config 4 (retireWith 1 4 s))).rd x =
        if x = config.addrDiv ∧ s.divAcc.toNat + 4 > 255 then s.rd config.addrDiv + 1 else s.rd x := by
    rw [displayUpdate_rd _ _ _ _ hs hl, ht, timerDivider_rd, hr, hr, hd]
  have hi : devicePhase config 4 (retireWith 1 4 s) = displayUpdate config 4 (timerIncrease config 4 (retireWith 1 4 s)) := by
    apply interruptEvaluate_idle
    rw [hrd _ (by decide) (by decide), if_neg (by simp [config])]
    exact h.quiet _ (by decide) (by decide) (by decide)
  rw [hi]
  constructor
  · rw [displayUpdate_frame, timerIncrease_frame]
    show s.pc + 1 = _
    rw [h.pc, BitVec.ofNat_add]
    rfl
  · rw [displayUpdate_frame, timerIncrease_frame]; exact h.running
  · rw [displayUpdate_frame, timerIncrease_frame]
    show s.cycles + 4 = _
    rw [h.cycles]; omega
  · intro r
    rw [displayUpdate_frame, timerIncrease_frame, ← h.registers r]
    cases r <;> rfl
  · rw [hrd _ (by decide) (by decide), displayUpdate_frame, timerIncrease_frame]
    show 256 * BitVec.toNat _ + (BitVec.ofNat 8 (s.divAcc.toNat + 4)).toNat = _
    have h0 := h.divider
    have h1 := s.divAcc.isLt
    have h2 := (s.rd config.addrDiv).isLt
    simp only [true_and, BitVec.toNat_ofNat]
    split
    · have h3 : (1 : Byte).toNat = 1 := rfl
      rw [BitVec.toNat_add, h3]; omega
    · omega
  · intro x hx hs hl
    rw [hrd x hs hl, if_neg fun hh => hx hh.1, h.quiet x hx hs hl]

/-- One step, then the rest of the run. -/
theorem run_succ (M : Host.Core) (k : Nat) (s : M.State) :
    M.run (k + 1) s =
      match M.step s with
      | .next u => M.run k u
      | .fault r => .fault r
      | .refused r => .refused r := rfl

/-- A run that begins with a step that goes on. -/
theorem run_of_step {s u : State} (h : step s = .next u) (k : Nat) : core.run (k + 1) s = core.run k u := by
  have hs : core.step s = .next u := h
  have hr := run_succ core k s
  rw [hs] at hr
  exact hr

/-- As many steps as the divider's address allows. -/
theorem unloaded_run_from (k : Nat) {n : Nat} {s : State} (h : Unloaded n s) (hk : n + k ≤ 0xFF04) :
    ∃ t : State, core.run k s = .next t ∧ Unloaded (n + k) t := by
  induction k generalizing n s with
  | zero => exact ⟨s, rfl, h⟩
  | succ k ih =>
    obtain ⟨-, u, hu, hnext⟩ := unloaded_step h (by omega)
    obtain ⟨t, ht, hall⟩ := ih hnext (by omega)
    refine ⟨t, ?_, by rwa [Nat.add_right_comm, Nat.add_assoc n] at hall⟩
    exact (run_of_step hu k).trans ht

/-- R255, R322, as far as the step rules bear the sentence out: from reset with nothing loaded, every step up to the divider's address
executes a NOP, PC moving on by one byte and the counter by 4 each time. -/
theorem unloaded_core_executes_nops (n : Nat) (hn : n < 0xFF04) :
    ∃ s : State, core.run n State.reset = .next s ∧ Unloaded n s ∧ fetch s = .nop := by
  obtain ⟨s, hs, hu⟩ := unloaded_run_from n unloaded_reset (by omega)
  rw [Nat.zero_add] at hu
  exact ⟨s, hs, hu, (unloaded_step hu hn).1⟩

/-- Where they do not: after 0xFF04 NOPs the divider has counted 261136 cycles (R290), so its byte, which is the byte at PC (R33) and
the one the fetch reads (R80, R92), is 0xFC. -/
theorem unloaded_core_meets_divider :
    ∃ s : State, core.run 0xFF04 State.reset = .next s ∧ s.pc = config.addrDiv ∧ s.rd s.pc = 0xFC ∧ fetch s = .invalid_FC := by
  obtain ⟨s, hs, hu⟩ := unloaded_run_from 0xFF04 unloaded_reset (Nat.le_refl _)
  rw [Nat.zero_add] at hu
  have hpc : s.pc = config.addrDiv := hu.pc
  have hd : s.rd config.addrDiv = 0xFC := by
    have h0 := hu.divider
    have h1 := s.divAcc.isLt
    apply BitVec.eq_of_toNat_eq
    show _ = 252
    omega
  refine ⟨s, hs, hpc, hpc ▸ hd, ?_⟩
  rw [fetch, hpc, hd]
  rfl

end Sys2Proof.Machine
end

