-- ==== Sys2Proof/Tests/Slice0.lean ====
section
/-! SUPPORT. Tests of the model and, for every statement of Certificates/Slice0/Obligations.lean that has hypotheses, a state and
operands that meet them. Expected results are the spec's: the grid of R108 and the fields of R104 for decoding, the vectors of
95_test_vectors.md for steps. -/
namespace Sys2Proof.Tests
open Sys2Proof.Machine Sys2Proof.Claims

/-! ### Well-formedness: one check, one ill-formed term it refuses -/

theorem test_prefix_entry_ill_formed : (Instr.prefix_CB 0x37).wellFormed = false := by decide

theorem test_swap_well_formed : Instr.swap_A.wellFormed = true := by decide

/-! ### Decoding: every constructor, base page by R108 (immediate bytes 0x34 0x12), extended page by R104 -/

theorem test_decode_base_0 :
    [
      decode 0x00 0x34 0x12, decode 0x01 0x34 0x12, decode 0x02 0x34 0x12, decode 0x03 0x34 0x12, decode 0x04 0x34 0x12,
      decode 0x05 0x34 0x12, decode 0x06 0x34 0x12, decode 0x07 0x34 0x12, decode 0x08 0x34 0x12, decode 0x09 0x34 0x12,
      decode 0x0A 0x34 0x12, decode 0x0B 0x34 0x12, decode 0x0C 0x34 0x12, decode 0x0D 0x34 0x12, decode 0x0E 0x34 0x12,
      decode 0x0F 0x34 0x12]
    = [
      .nop, .ld_BC_nn 0x1234, .ld_atBC_A, .inc_BC, .inc_B, .dec_B, .ld_B_n 0x34, .rlca, .ld_atnn_SP 0x1234, .add_HL_BC,
      .ld_A_atBC, .dec_BC, .inc_C, .dec_C, .ld_C_n 0x34, .rrca] := by
  decide

theorem test_decode_base_1 :
    [
      decode 0x10 0x34 0x12, decode 0x11 0x34 0x12, decode 0x12 0x34 0x12, decode 0x13 0x34 0x12, decode 0x14 0x34 0x12,
      decode 0x15 0x34 0x12, decode 0x16 0x34 0x12, decode 0x17 0x34 0x12, decode 0x18 0x34 0x12, decode 0x19 0x34 0x12,
      decode 0x1A 0x34 0x12, decode 0x1B 0x34 0x12, decode 0x1C 0x34 0x12, decode 0x1D 0x34 0x12, decode 0x1E 0x34 0x12,
      decode 0x1F 0x34 0x12]
    = [
      .stop 0x34, .ld_DE_nn 0x1234, .ld_atDE_A, .inc_DE, .inc_D, .dec_D, .ld_D_n 0x34, .rla, .jr_e 0x34, .add_HL_DE,
      .ld_A_atDE, .dec_DE, .inc_E, .dec_E, .ld_E_n 0x34, .rra] := by
  decide

theorem test_decode_base_2 :
    [
      decode 0x20 0x34 0x12, decode 0x21 0x34 0x12, decode 0x22 0x34 0x12, decode 0x23 0x34 0x12, decode 0x24 0x34 0x12,
      decode 0x25 0x34 0x12, decode 0x26 0x34 0x12, decode 0x27 0x34 0x12, decode 0x28 0x34 0x12, decode 0x29 0x34 0x12,
      decode 0x2A 0x34 0x12, decode 0x2B 0x34 0x12, decode 0x2C 0x34 0x12, decode 0x2D 0x34 0x12, decode 0x2E 0x34 0x12,
      decode 0x2F 0x34 0x12]
    = [
      .jr_NZ_e 0x34, .ld_HL_nn 0x1234, .ld_atHLinc_A, .inc_HL, .inc_H, .dec_H, .ld_H_n 0x34, .daa, .jr_Z_e 0x34, .add_HL_HL,
      .ld_A_atHLinc, .dec_HL, .inc_L, .dec_L, .ld_L_n 0x34, .cpl] := by
  decide

theorem test_decode_base_3 :
    [
      decode 0x30 0x34 0x12, decode 0x31 0x34 0x12, decode 0x32 0x34 0x12, decode 0x33 0x34 0x12, decode 0x34 0x34 0x12,
      decode 0x35 0x34 0x12, decode 0x36 0x34 0x12, decode 0x37 0x34 0x12, decode 0x38 0x34 0x12, decode 0x39 0x34 0x12,
      decode 0x3A 0x34 0x12, decode 0x3B 0x34 0x12, decode 0x3C 0x34 0x12, decode 0x3D 0x34 0x12, decode 0x3E 0x34 0x12,
      decode 0x3F 0x34 0x12]
    = [
      .jr_NC_e 0x34, .ld_SP_nn 0x1234, .ld_atHLdec_A, .inc_SP, .inc_atHL, .dec_atHL, .ld_atHL_n 0x34, .scf, .jr_C_e 0x34,
      .add_HL_SP, .ld_A_atHLdec, .dec_SP, .inc_A, .dec_A, .ld_A_n 0x34, .ccf] := by
  decide

theorem test_decode_base_4 :
    [
      decode 0x40 0x34 0x12, decode 0x41 0x34 0x12, decode 0x42 0x34 0x12, decode 0x43 0x34 0x12, decode 0x44 0x34 0x12,
      decode 0x45 0x34 0x12, decode 0x46 0x34 0x12, decode 0x47 0x34 0x12, decode 0x48 0x34 0x12, decode 0x49 0x34 0x12,
      decode 0x4A 0x34 0x12, decode 0x4B 0x34 0x12, decode 0x4C 0x34 0x12, decode 0x4D 0x34 0x12, decode 0x4E 0x34 0x12,
      decode 0x4F 0x34 0x12]
    = [
      .ld_B_B, .ld_B_C, .ld_B_D, .ld_B_E, .ld_B_H, .ld_B_L, .ld_B_atHL, .ld_B_A, .ld_C_B, .ld_C_C, .ld_C_D, .ld_C_E, .ld_C_H,
      .ld_C_L, .ld_C_atHL, .ld_C_A] := by
  decide

theorem test_decode_base_5 :
    [
      decode 0x50 0x34 0x12, decode 0x51 0x34 0x12, decode 0x52 0x34 0x12, decode 0x53 0x34 0x12, decode 0x54 0x34 0x12,
      decode 0x55 0x34 0x12, decode 0x56 0x34 0x12, decode 0x57 0x34 0x12, decode 0x58 0x34 0x12, decode 0x59 0x34 0x12,
      decode 0x5A 0x34 0x12, decode 0x5B 0x34 0x12, decode 0x5C 0x34 0x12, decode 0x5D 0x34 0x12, decode 0x5E 0x34 0x12,
      decode 0x5F 0x34 0x12]
    = [
      .ld_D_B, .ld_D_C, .ld_D_D, .ld_D_E, .ld_D_H, .ld_D_L, .ld_D_atHL, .ld_D_A, .ld_E_B, .ld_E_C, .ld_E_D, .ld_E_E, .ld_E_H,
      .ld_E_L, .ld_E_atHL, .ld_E_A] := by
  decide

theorem test_decode_base_6 :
    [
      decode 0x60 0x34 0x12, decode 0x61 0x34 0x12, decode 0x62 0x34 0x12, decode 0x63 0x34 0x12, decode 0x64 0x34 0x12,
      decode 0x65 0x34 0x12, decode 0x66 0x34 0x12, decode 0x67 0x34 0x12, decode 0x68 0x34 0x12, decode 0x69 0x34 0x12,
      decode 0x6A 0x34 0x12, decode 0x6B 0x34 0x12, decode 0x6C 0x34 0x12, decode 0x6D 0x34 0x12, decode 0x6E 0x34 0x12,
      decode 0x6F 0x34 0x12]
    = [
      .ld_H_B, .ld_H_C, .ld_H_D, .ld_H_E, .ld_H_H, .ld_H_L, .ld_H_atHL, .ld_H_A, .ld_L_B, .ld_L_C, .ld_L_D, .ld_L_E, .ld_L_H,
      .ld_L_L, .ld_L_atHL, .ld_L_A] := by
  decide

theorem test_decode_base_7 :
    [
      decode 0x70 0x34 0x12, decode 0x71 0x34 0x12, decode 0x72 0x34 0x12, decode 0x73 0x34 0x12, decode 0x74 0x34 0x12,
      decode 0x75 0x34 0x12, decode 0x76 0x34 0x12, decode 0x77 0x34 0x12, decode 0x78 0x34 0x12, decode 0x79 0x34 0x12,
      decode 0x7A 0x34 0x12, decode 0x7B 0x34 0x12, decode 0x7C 0x34 0x12, decode 0x7D 0x34 0x12, decode 0x7E 0x34 0x12,
      decode 0x7F 0x34 0x12]
    = [
      .ld_atHL_B, .ld_atHL_C, .ld_atHL_D, .ld_atHL_E, .ld_atHL_H, .ld_atHL_L, .halt, .ld_atHL_A, .ld_A_B, .ld_A_C, .ld_A_D,
      .ld_A_E, .ld_A_H, .ld_A_L, .ld_A_atHL, .ld_A_A] := by
  decide

theorem test_decode_base_8 :
    [
      decode 0x80 0x34 0x12, decode 0x81 0x34 0x12, decode 0x82 0x34 0x12, decode 0x83 0x34 0x12, decode 0x84 0x34 0x12,
      decode 0x85 0x34 0x12, decode 0x86 0x34 0x12, decode 0x87 0x34 0x12, decode 0x88 0x34 0x12, decode 0x89 0x34 0x12,
      decode 0x8A 0x34 0x12, decode 0x8B 0x34 0x12, decode 0x8C 0x34 0x12, decode 0x8D 0x34 0x12, decode 0x8E 0x34 0x12,
      decode 0x8F 0x34 0x12]
    = [
      .add_A_B, .add_A_C, .add_A_D, .add_A_E, .add_A_H, .add_A_L, .add_A_atHL, .add_A_A, .adc_A_B, .adc_A_C, .adc_A_D,
      .adc_A_E, .adc_A_H, .adc_A_L, .adc_A_atHL, .adc_A_A] := by
  decide

theorem test_decode_base_9 :
    [
      decode 0x90 0x34 0x12, decode 0x91 0x34 0x12, decode 0x92 0x34 0x12, decode 0x93 0x34 0x12, decode 0x94 0x34 0x12,
      decode 0x95 0x34 0x12, decode 0x96 0x34 0x12, decode 0x97 0x34 0x12, decode 0x98 0x34 0x12, decode 0x99 0x34 0x12,
      decode 0x9A 0x34 0x12, decode 0x9B 0x34 0x12, decode 0x9C 0x34 0x12, decode 0x9D 0x34 0x12, decode 0x9E 0x34 0x12,
      decode 0x9F 0x34 0x12]
    = [
      .sub_B, .sub_C, .sub_D, .sub_E, .sub_H, .sub_L, .sub_atHL, .sub_A, .sbc_A_B, .sbc_A_C, .sbc_A_D, .sbc_A_E, .sbc_A_H,
      .sbc_A_L, .sbc_A_atHL, .sbc_A_A] := by
  decide

theorem test_decode_base_A :
    [
      decode 0xA0 0x34 0x12, decode 0xA1 0x34 0x12, decode 0xA2 0x34 0x12, decode 0xA3 0x34 0x12, decode 0xA4 0x34 0x12,
      decode 0xA5 0x34 0x12, decode 0xA6 0x34 0x12, decode 0xA7 0x34 0x12, decode 0xA8 0x34 0x12, decode 0xA9 0x34 0x12,
      decode 0xAA 0x34 0x12, decode 0xAB 0x34 0x12, decode 0xAC 0x34 0x12, decode 0xAD 0x34 0x12, decode 0xAE 0x34 0x12,
      decode 0xAF 0x34 0x12]
    = [
      .and_B, .and_C, .and_D, .and_E, .and_H, .and_L, .and_atHL, .and_A, .xor_B, .xor_C, .xor_D, .xor_E, .xor_H, .xor_L,
      .xor_atHL, .xor_A] := by
  decide

theorem test_decode_base_B :
    [
      decode 0xB0 0x34 0x12, decode 0xB1 0x34 0x12, decode 0xB2 0x34 0x12, decode 0xB3 0x34 0x12, decode 0xB4 0x34 0x12,
      decode 0xB5 0x34 0x12, decode 0xB6 0x34 0x12, decode 0xB7 0x34 0x12, decode 0xB8 0x34 0x12, decode 0xB9 0x34 0x12,
      decode 0xBA 0x34 0x12, decode 0xBB 0x34 0x12, decode 0xBC 0x34 0x12, decode 0xBD 0x34 0x12, decode 0xBE 0x34 0x12,
      decode 0xBF 0x34 0x12]
    = [
      .or_B, .or_C, .or_D, .or_E, .or_H, .or_L, .or_atHL, .or_A, .cp_B, .cp_C, .cp_D, .cp_E, .cp_H, .cp_L, .cp_atHL, .cp_A] := by
  decide

theorem test_decode_base_C :
    [
      decode 0xC0 0x34 0x12, decode 0xC1 0x34 0x12, decode 0xC2 0x34 0x12, decode 0xC3 0x34 0x12, decode 0xC4 0x34 0x12,
      decode 0xC5 0x34 0x12, decode 0xC6 0x34 0x12, decode 0xC7 0x34 0x12, decode 0xC8 0x34 0x12, decode 0xC9 0x34 0x12,
      decode 0xCA 0x34 0x12, decode 0xCC 0x34 0x12, decode 0xCD 0x34 0x12, decode 0xCE 0x34 0x12, decode 0xCF 0x34 0x12]
    = [
      .ret_NZ, .pop_BC, .jp_NZ_nn 0x1234, .jp_nn 0x1234, .call_NZ_nn 0x1234, .push_BC, .add_A_n 0x34, .rst_00, .ret_Z, .ret,
      .jp_Z_nn 0x1234, .call_Z_nn 0x1234, .call_nn 0x1234, .adc_A_n 0x34, .rst_08] := by
  decide

theorem test_decode_base_D :
    [
      decode 0xD0 0x34 0x12, decode 0xD1 0x34 0x12, decode 0xD2 0x34 0x12, decode 0xD3 0x34 0x12, decode 0xD4 0x34 0x12,
      decode 0xD5 0x34 0x12, decode 0xD6 0x34 0x12, decode 0xD7 0x34 0x12, decode 0xD8 0x34 0x12, decode 0xD9 0x34 0x12,
      decode 0xDA 0x34 0x12, decode 0xDB 0x34 0x12, decode 0xDC 0x34 0x12, decode 0xDD 0x34 0x12, decode 0xDE 0x34 0x12,
      decode 0xDF 0x34 0x12]
    = [
      .ret_NC, .pop_DE, .jp_NC_nn 0x1234, .invalid_D3, .call_NC_nn 0x1234, .push_DE, .sub_n 0x34, .rst_10, .ret_C, .reti,
      .jp_C_nn 0x1234, .invalid_DB, .call_C_nn 0x1234, .invalid_DD, .sbc_A_n 0x34, .rst_18] := by
  decide

theorem test_decode_base_E :
    [
      decode 0xE0 0x34 0x12, decode 0xE1 0x34 0x12, decode 0xE2 0x34 0x12, decode 0xE3 0x34 0x12, decode 0xE4 0x34 0x12,
      decode 0xE5 0x34 0x12, decode 0xE6 0x34 0x12, decode 0xE7 0x34 0x12, decode 0xE8 0x34 0x12, decode 0xE9 0x34 0x12,
      decode 0xEA 0x34 0x12, decode 0xEB 0x34 0x12, decode 0xEC 0x34 0x12, decode 0xED 0x34 0x12, decode 0xEE 0x34 0x12,
      decode 0xEF 0x34 0x12]
    = [
      .ldh_atn_A 0x34, .pop_HL, .ld_atC_A, .invalid_E3, .invalid_E4, .push_HL, .and_n 0x34, .rst_20, .add_SP_e 0x34, .jp_HL,
      .ld_atnn_A 0x1234, .invalid_EB, .invalid_EC, .invalid_ED, .xor_n 0x34, .rst_28] := by
  decide

theorem test_decode_base_F :
    [
      decode 0xF0 0x34 0x12, decode 0xF1 0x34 0x12, decode 0xF2 0x34 0x12, decode 0xF3 0x34 0x12, decode 0xF4 0x34 0x12,
      decode 0xF5 0x34 0x12, decode 0xF6 0x34 0x12, decode 0xF7 0x34 0x12, decode 0xF8 0x34 0x12, decode 0xF9 0x34 0x12,
      decode 0xFA 0x34 0x12, decode 0xFB 0x34 0x12, decode 0xFC 0x34 0x12, decode 0xFD 0x34 0x12, decode 0xFE 0x34 0x12,
      decode 0xFF 0x34 0x12]
    = [
      .ldh_A_atn 0x34, .pop_AF, .ld_A_atC, .di, .invalid_F4, .push_AF, .or_n 0x34, .rst_30, .ld_HL_SPe 0x34, .ld_SP_HL,
      .ld_A_atnn 0x1234, .ei, .invalid_FC, .invalid_FD, .cp_n 0x34, .rst_38] := by
  decide

theorem test_decode_ext_0 :
    [
      decode 0xCB 0x00 0x12, decode 0xCB 0x01 0x12, decode 0xCB 0x02 0x12, decode 0xCB 0x03 0x12, decode 0xCB 0x04 0x12,
      decode 0xCB 0x05 0x12, decode 0xCB 0x06 0x12, decode 0xCB 0x07 0x12, decode 0xCB 0x08 0x12, decode 0xCB 0x09 0x12,
      decode 0xCB 0x0A 0x12, decode 0xCB 0x0B 0x12, decode 0xCB 0x0C 0x12, decode 0xCB 0x0D 0x12, decode 0xCB 0x0E 0x12,
      decode 0xCB 0x0F 0x12]
    = [
      .rlc_B, .rlc_C, .rlc_D, .rlc_E, .rlc_H, .rlc_L, .rlc_atHL, .rlc_A, .rrc_B, .rrc_C, .rrc_D, .rrc_E, .rrc_H, .rrc_L,
      .rrc_atHL, .rrc_A] := by
  decide

theorem test_decode_ext_1 :
    [
      decode 0xCB 0x10 0x12, decode 0xCB 0x11 0x12, decode 0xCB 0x12 0x12, decode 0xCB 0x13 0x12, decode 0xCB 0x14 0x12,
      decode 0xCB 0x15 0x12, decode 0xCB 0x16 0x12, decode 0xCB 0x17 0x12, decode 0xCB 0x18 0x12, decode 0xCB 0x19 0x12,
      decode 0xCB 0x1A 0x12, decode 0xCB 0x1B 0x12, decode 0xCB 0x1C 0x12, decode 0xCB 0x1D 0x12, decode 0xCB 0x1E 0x12,
      decode 0xCB 0x1F 0x12]
    = [
      .rl_B, .rl_C, .rl_D, .rl_E, .rl_H, .rl_L, .rl_atHL, .rl_A, .rr_B, .rr_C, .rr_D, .rr_E, .rr_H, .rr_L, .rr_atHL, .rr_A] := by
  decide

theorem test_decode_ext_2 :
    [
      decode 0xCB 0x20 0x12, decode 0xCB 0x21 0x12, decode 0xCB 0x22 0x12, decode 0xCB 0x23 0x12, decode 0xCB 0x24 0x12,
      decode 0xCB 0x25 0x12, decode 0xCB 0x26 0x12, decode 0xCB 0x27 0x12, decode 0xCB 0x28 0x12, decode 0xCB 0x29 0x12,
      decode 0xCB 0x2A 0x12, decode 0xCB 0x2B 0x12, decode 0xCB 0x2C 0x12, decode 0xCB 0x2D 0x12, decode 0xCB 0x2E 0x12,
      decode 0xCB 0x2F 0x12]
    = [
      .sla_B, .sla_C, .sla_D, .sla_E, .sla_H, .sla_L, .sla_atHL, .sla_A, .sra_B, .sra_C, .sra_D, .sra_E, .sra_H, .sra_L,
      .sra_atHL, .sra_A] := by
  decide

theorem test_decode_ext_3 :
    [
      decode 0xCB 0x30 0x12, decode 0xCB 0x31 0x12, decode 0xCB 0x32 0x12, decode 0xCB 0x33 0x12, decode 0xCB 0x34 0x12,
      decode 0xCB 0x35 0x12, decode 0xCB 0x36 0x12, decode 0xCB 0x37 0x12, decode 0xCB 0x38 0x12, decode 0xCB 0x39 0x12,
      decode 0xCB 0x3A 0x12, decode 0xCB 0x3B 0x12, decode 0xCB 0x3C 0x12, decode 0xCB 0x3D 0x12, decode 0xCB 0x3E 0x12,
      decode 0xCB 0x3F 0x12]
    = [
      .swap_B, .swap_C, .swap_D, .swap_E, .swap_H, .swap_L, .swap_atHL, .swap_A, .srl_B, .srl_C, .srl_D, .srl_E, .srl_H,
      .srl_L, .srl_atHL, .srl_A] := by
  decide

theorem test_decode_ext_4 :
    [
      decode 0xCB 0x40 0x12, decode 0xCB 0x41 0x12, decode 0xCB 0x42 0x12, decode 0xCB 0x43 0x12, decode 0xCB 0x44 0x12,
      decode 0xCB 0x45 0x12, decode 0xCB 0x46 0x12, decode 0xCB 0x47 0x12, decode 0xCB 0x48 0x12, decode 0xCB 0x49 0x12,
      decode 0xCB 0x4A 0x12, decode 0xCB 0x4B 0x12, decode 0xCB 0x4C 0x12, decode 0xCB 0x4D 0x12, decode 0xCB 0x4E 0x12,
      decode 0xCB 0x4F 0x12]
    = [
      .bit_0_B, .bit_0_C, .bit_0_D, .bit_0_E, .bit_0_H, .bit_0_L, .bit_0_atHL, .bit_0_A, .bit_1_B, .bit_1_C, .bit_1_D,
      .bit_1_E, .bit_1_H, .bit_1_L, .bit_1_atHL, .bit_1_A] := by
  decide

theorem test_decode_ext_5 :
    [
      decode 0xCB 0x50 0x12, decode 0xCB 0x51 0x12, decode 0xCB 0x52 0x12, decode 0xCB 0x53 0x12, decode 0xCB 0x54 0x12,
      decode 0xCB 0x55 0x12, decode 0xCB 0x56 0x12, decode 0xCB 0x57 0x12, decode 0xCB 0x58 0x12, decode 0xCB 0x59 0x12,
      decode 0xCB 0x5A 0x12, decode 0xCB 0x5B 0x12, decode 0xCB 0x5C 0x12, decode 0xCB 0x5D 0x12, decode 0xCB 0x5E 0x12,
      decode 0xCB 0x5F 0x12]
    = [
      .bit_2_B, .bit_2_C, .bit_2_D, .bit_2_E, .bit_2_H, .bit_2_L, .bit_2_atHL, .bit_2_A, .bit_3_B, .bit_3_C, .bit_3_D,
      .bit_3_E, .bit_3_H, .bit_3_L, .bit_3_atHL, .bit_3_A] := by
  decide

theorem test_decode_ext_6 :
    [
      decode 0xCB 0x60 0x12, decode 0xCB 0x61 0x12, decode 0xCB 0x62 0x12, decode 0xCB 0x63 0x12, decode 0xCB 0x64 0x12,
      decode 0xCB 0x65 0x12, decode 0xCB 0x66 0x12, decode 0xCB 0x67 0x12, decode 0xCB 0x68 0x12, decode 0xCB 0x69 0x12,
      decode 0xCB 0x6A 0x12, decode 0xCB 0x6B 0x12, decode 0xCB 0x6C 0x12, decode 0xCB 0x6D 0x12, decode 0xCB 0x6E 0x12,
      decode 0xCB 0x6F 0x12]
    = [
      .bit_4_B, .bit_4_C, .bit_4_D, .bit_4_E, .bit_4_H, .bit_4_L, .bit_4_atHL, .bit_4_A, .bit_5_B, .bit_5_C, .bit_5_D,
      .bit_5_E, .bit_5_H, .bit_5_L, .bit_5_atHL, .bit_5_A] := by
  decide

theorem test_decode_ext_7 :
    [
      decode 0xCB 0x70 0x12, decode 0xCB 0x71 0x12, decode 0xCB 0x72 0x12, decode 0xCB 0x73 0x12, decode 0xCB 0x74 0x12,
      decode 0xCB 0x75 0x12, decode 0xCB 0x76 0x12, decode 0xCB 0x77 0x12, decode 0xCB 0x78 0x12, decode 0xCB 0x79 0x12,
      decode 0xCB 0x7A 0x12, decode 0xCB 0x7B 0x12, decode 0xCB 0x7C 0x12, decode 0xCB 0x7D 0x12, decode 0xCB 0x7E 0x12,
      decode 0xCB 0x7F 0x12]
    = [
      .bit_6_B, .bit_6_C, .bit_6_D, .bit_6_E, .bit_6_H, .bit_6_L, .bit_6_atHL, .bit_6_A, .bit_7_B, .bit_7_C, .bit_7_D,
      .bit_7_E, .bit_7_H, .bit_7_L, .bit_7_atHL, .bit_7_A] := by
  decide

theorem test_decode_ext_8 :
    [
      decode 0xCB 0x80 0x12, decode 0xCB 0x81 0x12, decode 0xCB 0x82 0x12, decode 0xCB 0x83 0x12, decode 0xCB 0x84 0x12,
      decode 0xCB 0x85 0x12, decode 0xCB 0x86 0x12, decode 0xCB 0x87 0x12, decode 0xCB 0x88 0x12, decode 0xCB 0x89 0x12,
      decode 0xCB 0x8A 0x12, decode 0xCB 0x8B 0x12, decode 0xCB 0x8C 0x12, decode 0xCB 0x8D 0x12, decode 0xCB 0x8E 0x12,
      decode 0xCB 0x8F 0x12]
    = [
      .res_0_B, .res_0_C, .res_0_D, .res_0_E, .res_0_H, .res_0_L, .res_0_atHL, .res_0_A, .res_1_B, .res_1_C, .res_1_D,
      .res_1_E, .res_1_H, .res_1_L, .res_1_atHL, .res_1_A] := by
  decide

theorem test_decode_ext_9 :
    [
      decode 0xCB 0x90 0x12, decode 0xCB 0x91 0x12, decode 0xCB 0x92 0x12, decode 0xCB 0x93 0x12, decode 0xCB 0x94 0x12,
      decode 0xCB 0x95 0x12, decode 0xCB 0x96 0x12, decode 0xCB 0x97 0x12, decode 0xCB 0x98 0x12, decode 0xCB 0x99 0x12,
      decode 0xCB 0x9A 0x12, decode 0xCB 0x9B 0x12, decode 0xCB 0x9C 0x12, decode 0xCB 0x9D 0x12, decode 0xCB 0x9E 0x12,
      decode 0xCB 0x9F 0x12]
    = [
      .res_2_B, .res_2_C, .res_2_D, .res_2_E, .res_2_H, .res_2_L, .res_2_atHL, .res_2_A, .res_3_B, .res_3_C, .res_3_D,
      .res_3_E, .res_3_H, .res_3_L, .res_3_atHL, .res_3_A] := by
  decide

theorem test_decode_ext_A :
    [
      decode 0xCB 0xA0 0x12, decode 0xCB 0xA1 0x12, decode 0xCB 0xA2 0x12, decode 0xCB 0xA3 0x12, decode 0xCB 0xA4 0x12,
      decode 0xCB 0xA5 0x12, decode 0xCB 0xA6 0x12, decode 0xCB 0xA7 0x12, decode 0xCB 0xA8 0x12, decode 0xCB 0xA9 0x12,
      decode 0xCB 0xAA 0x12, decode 0xCB 0xAB 0x12, decode 0xCB 0xAC 0x12, decode 0xCB 0xAD 0x12, decode 0xCB 0xAE 0x12,
      decode 0xCB 0xAF 0x12]
    = [
      .res_4_B, .res_4_C, .res_4_D, .res_4_E, .res_4_H, .res_4_L, .res_4_atHL, .res_4_A, .res_5_B, .res_5_C, .res_5_D,
      .res_5_E, .res_5_H, .res_5_L, .res_5_atHL, .res_5_A] := by
  decide

theorem test_decode_ext_B :
    [
      decode 0xCB 0xB0 0x12, decode 0xCB 0xB1 0x12, decode 0xCB 0xB2 0x12, decode 0xCB 0xB3 0x12, decode 0xCB 0xB4 0x12,
      decode 0xCB 0xB5 0x12, decode 0xCB 0xB6 0x12, decode 0xCB 0xB7 0x12, decode 0xCB 0xB8 0x12, decode 0xCB 0xB9 0x12,
      decode 0xCB 0xBA 0x12, decode 0xCB 0xBB 0x12, decode 0xCB 0xBC 0x12, decode 0xCB 0xBD 0x12, decode 0xCB 0xBE 0x12,
      decode 0xCB 0xBF 0x12]
    = [
      .res_6_B, .res_6_C, .res_6_D, .res_6_E, .res_6_H, .res_6_L, .res_6_atHL, .res_6_A, .res_7_B, .res_7_C, .res_7_D,
      .res_7_E, .res_7_H, .res_7_L, .res_7_atHL, .res_7_A] := by
  decide

theorem test_decode_ext_C :
    [
      decode 0xCB 0xC0 0x12, decode 0xCB 0xC1 0x12, decode 0xCB 0xC2 0x12, decode 0xCB 0xC3 0x12, decode 0xCB 0xC4 0x12,
      decode 0xCB 0xC5 0x12, decode 0xCB 0xC6 0x12, decode 0xCB 0xC7 0x12, decode 0xCB 0xC8 0x12, decode 0xCB 0xC9 0x12,
      decode 0xCB 0xCA 0x12, decode 0xCB 0xCB 0x12, decode 0xCB 0xCC 0x12, decode 0xCB 0xCD 0x12, decode 0xCB 0xCE 0x12,
      decode 0xCB 0xCF 0x12]
    = [
      .set_0_B, .set_0_C, .set_0_D, .set_0_E, .set_0_H, .set_0_L, .set_0_atHL, .set_0_A, .set_1_B, .set_1_C, .set_1_D,
      .set_1_E, .set_1_H, .set_1_L, .set_1_atHL, .set_1_A] := by
  decide

theorem test_decode_ext_D :
    [
      decode 0xCB 0xD0 0x12, decode 0xCB 0xD1 0x12, decode 0xCB 0xD2 0x12, decode 0xCB 0xD3 0x12, decode 0xCB 0xD4 0x12,
      decode 0xCB 0xD5 0x12, decode 0xCB 0xD6 0x12, decode 0xCB 0xD7 0x12, decode 0xCB 0xD8 0x12, decode 0xCB 0xD9 0x12,
      decode 0xCB 0xDA 0x12, decode 0xCB 0xDB 0x12, decode 0xCB 0xDC 0x12, decode 0xCB 0xDD 0x12, decode 0xCB 0xDE 0x12,
      decode 0xCB 0xDF 0x12]
    = [
      .set_2_B, .set_2_C, .set_2_D, .set_2_E, .set_2_H, .set_2_L, .set_2_atHL, .set_2_A, .set_3_B, .set_3_C, .set_3_D,
      .set_3_E, .set_3_H, .set_3_L, .set_3_atHL, .set_3_A] := by
  decide

theorem test_decode_ext_E :
    [
      decode 0xCB 0xE0 0x12, decode 0xCB 0xE1 0x12, decode 0xCB 0xE2 0x12, decode 0xCB 0xE3 0x12, decode 0xCB 0xE4 0x12,
      decode 0xCB 0xE5 0x12, decode 0xCB 0xE6 0x12, decode 0xCB 0xE7 0x12, decode 0xCB 0xE8 0x12, decode 0xCB 0xE9 0x12,
      decode 0xCB 0xEA 0x12, decode 0xCB 0xEB 0x12, decode 0xCB 0xEC 0x12, decode 0xCB 0xED 0x12, decode 0xCB 0xEE 0x12,
      decode 0xCB 0xEF 0x12]
    = [
      .set_4_B, .set_4_C, .set_4_D, .set_4_E, .set_4_H, .set_4_L, .set_4_atHL, .set_4_A, .set_5_B, .set_5_C, .set_5_D,
      .set_5_E, .set_5_H, .set_5_L, .set_5_atHL, .set_5_A] := by
  decide

theorem test_decode_ext_F :
    [
      decode 0xCB 0xF0 0x12, decode 0xCB 0xF1 0x12, decode 0xCB 0xF2 0x12, decode 0xCB 0xF3 0x12, decode 0xCB 0xF4 0x12,
      decode 0xCB 0xF5 0x12, decode 0xCB 0xF6 0x12, decode 0xCB 0xF7 0x12, decode 0xCB 0xF8 0x12, decode 0xCB 0xF9 0x12,
      decode 0xCB 0xFA 0x12, decode 0xCB 0xFB 0x12, decode 0xCB 0xFC 0x12, decode 0xCB 0xFD 0x12, decode 0xCB 0xFE 0x12,
      decode 0xCB 0xFF 0x12]
    = [
      .set_6_B, .set_6_C, .set_6_D, .set_6_E, .set_6_H, .set_6_L, .set_6_atHL, .set_6_A, .set_7_B, .set_7_C, .set_7_D,
      .set_7_E, .set_7_H, .set_7_L, .set_7_atHL, .set_7_A] := by
  decide


/-! ### One step each: the vectors of 95_test_vectors.md, Part 2 (arithmetic to system, then the devices) -/

/-- The state after one step. -/
def ran (s : State) : Option State :=
  match step s with
  | .next t => some t
  | .fault _ => none
  | .refused _ => none

theorem test_step_ADD_A_B :
    (ran { State.reset with pc := 0x0100, a := 0x3A, b := 0xC6, mem := [(0x0100, 0x80)] }).map
        (fun t => (t.a, t.f, t.cycles))
      = some (0x00, 0xB0, 4) := by
  decide

theorem test_step_ADD_A_atHL :
    (ran { State.reset with pc := 0x0100, a := 0x3C, h := 0xC0, l := 0x00, mem := [(0x0100, 0x86), (0xC000, 0x12)] }).map
        (fun t => (t.a, t.f, t.cycles))
      = some (0x4E, 0x00, 8) := by
  decide

theorem test_step_ADC_A_C :
    (ran { State.reset with pc := 0x0100, a := 0xE1, c := 0x0F, f := 0x10, mem := [(0x0100, 0x89)] }).map
        (fun t => (t.a, t.f))
      = some (0xF1, 0x20) := by
  decide

theorem test_step_SUB_B :
    (ran { State.reset with pc := 0x0100, a := 0x3E, b := 0x3E, mem := [(0x0100, 0x90)] }).map
        (fun t => (t.a, t.f))
      = some (0x00, 0xC0) := by
  decide

theorem test_step_SBC_A_H :
    (ran { State.reset with pc := 0x0100, a := 0x3B, h := 0x2A, f := 0x10, mem := [(0x0100, 0x9C)] }).map
        (fun t => (t.a, t.f))
      = some (0x10, 0x40) := by
  decide

theorem test_step_SBC_A_A :
    (ran { State.reset with pc := 0x0100, a := 0x42, f := 0x10, mem := [(0x0100, 0x9F)] }).map
        (fun t => (t.a, t.f))
      = some (0xFF, 0x70) := by
  decide

theorem test_step_AND_L :
    (ran { State.reset with pc := 0x0100, a := 0x5A, l := 0x3F, mem := [(0x0100, 0xA5)] }).map
        (fun t => (t.a, t.f))
      = some (0x1A, 0x20) := by
  decide

theorem test_step_XOR_B :
    (ran { State.reset with pc := 0x0100, a := 0xFF, b := 0x0F, f := 0xF0, mem := [(0x0100, 0xA8)] }).map
        (fun t => (t.a, t.f))
      = some (0xF0, 0x00) := by
  decide

theorem test_step_OR_C :
    (ran { State.reset with pc := 0x0100, a := 0x5A, c := 0x0F, mem := [(0x0100, 0xB1)] }).map
        (fun t => (t.a, t.f))
      = some (0x5F, 0x00) := by
  decide

theorem test_step_CP_B :
    (ran { State.reset with pc := 0x0100, a := 0x3C, b := 0x2F, mem := [(0x0100, 0xB8)] }).map
        (fun t => (t.a, t.f))
      = some (0x3C, 0x60) := by
  decide

theorem test_step_INC_atHL :
    (ran { State.reset with pc := 0x0100, h := 0xC0, l := 0x00, f := 0xF0, mem := [(0x0100, 0x34), (0xC000, 0x50)] }).map
        (fun t => (t.rd 0xC000, t.f, t.cycles))
      = some (0x51, 0x10, 12) := by
  decide

theorem test_step_DEC_A :
    (ran { State.reset with pc := 0x0100, a := 0x01, f := 0x10, mem := [(0x0100, 0x3D)] }).map
        (fun t => (t.a, t.f))
      = some (0x00, 0xD0) := by
  decide

theorem test_step_DEC_atHL :
    (ran { State.reset with pc := 0x0100, h := 0xC0, l := 0x00, mem := [(0x0100, 0x35), (0xC000, 0x10)] }).map
        (fun t => (t.rd 0xC000, t.f, t.cycles))
      = some (0x0F, 0x60, 12) := by
  decide

theorem test_step_DAA :
    (ran { State.reset with pc := 0x0100, a := 0x0F, mem := [(0x0100, 0x27)] }).map (fun t => (t.a, t.f)) = some (0x15, 0x00) := by
  decide

theorem test_step_DAA_2 :
    (ran { State.reset with pc := 0x0100, a := 0x7D, mem := [(0x0100, 0x27)] }).map (fun t => (t.a, t.f)) = some (0x83, 0x00) := by
  decide

theorem test_step_CPL :
    (ran { State.reset with pc := 0x0100, a := 0x35, f := 0x90, mem := [(0x0100, 0x2F)] }).map
        (fun t => (t.a, t.f))
      = some (0xCA, 0xF0) := by
  decide

theorem test_step_SCF :
    (ran { State.reset with pc := 0x0100, f := 0xE0, mem := [(0x0100, 0x37)] }).map (fun t => t.f) = some 0x90 := by
  decide

theorem test_step_CCF :
    (ran { State.reset with pc := 0x0100, f := 0xF0, mem := [(0x0100, 0x3F)] }).map (fun t => t.f) = some 0x80 := by
  decide

theorem test_step_ADD_HL_DE :
    (ran { State.reset with pc := 0x0100, h := 0xFF, l := 0xFF, d := 0x00, e := 0x01, mem := [(0x0100, 0x19)] }).map
        (fun t => (t.pair .hl, t.f))
      = some (0x0000, 0x30) := by
  decide

theorem test_step_ADD_HL_SP :
    (ran { State.reset with pc := 0x0100, h := 0x0F, l := 0xFF, sp := 0x0001, mem := [(0x0100, 0x39)] }).map
        (fun t => (t.pair .hl, t.f))
      = some (0x1000, 0x20) := by
  decide

theorem test_step_ADD_SP_e :
    (ran { State.reset with pc := 0x0100, sp := 0x0001, mem := [(0x0100, 0xE8), (0x0101, 0xFF)] }).map
        (fun t => (t.sp, t.f))
      = some (0x0000, 0x30) := by
  decide

theorem test_step_INC_BC :
    (ran { State.reset with pc := 0x0100, b := 0xFF, c := 0xFF, f := 0x00, mem := [(0x0100, 0x03)] }).map
        (fun t => (t.pair .bc, t.f, t.cycles))
      = some (0x0000, 0x00, 8) := by
  decide

theorem test_step_DEC_HL :
    (ran { State.reset with pc := 0x0100, h := 0x00, l := 0x00, f := 0x80, mem := [(0x0100, 0x2B)] }).map
        (fun t => (t.pair .hl, t.f))
      = some (0xFFFF, 0x80) := by
  decide

theorem test_step_RLCA :
    (ran { State.reset with pc := 0x0100, a := 0x85, f := 0xF0, mem := [(0x0100, 0x07)] }).map
        (fun t => (t.a, t.f, t.cycles))
      = some (0x0B, 0x10, 4) := by
  decide

theorem test_step_RRCA :
    (ran { State.reset with pc := 0x0100, a := 0x3B, mem := [(0x0100, 0x0F)] }).map (fun t => (t.a, t.f)) = some (0x9D, 0x10) := by
  decide

theorem test_step_RLA :
    (ran { State.reset with pc := 0x0100, a := 0x95, f := 0x10, mem := [(0x0100, 0x17)] }).map
        (fun t => (t.a, t.f))
      = some (0x2B, 0x10) := by
  decide

theorem test_step_RRA :
    (ran { State.reset with pc := 0x0100, a := 0x81, f := 0x00, mem := [(0x0100, 0x1F)] }).map
        (fun t => (t.a, t.f))
      = some (0x40, 0x10) := by
  decide

theorem test_step_RLC_atHL :
    (ran { State.reset with pc := 0x0100, h := 0xC0, l := 0x00, f := 0x10, mem := [(0x0100, 0xCB), (0x0101, 0x06)] }).map
        (fun t => (t.rd 0xC000, t.f, t.cycles))
      = some (0x00, 0x80, 16) := by
  decide

theorem test_step_RL_atHL :
    (ran { State.reset with pc := 0x0100, h := 0xC0, l := 0x00, f := 0x10, mem := [(0x0100, 0xCB), (0x0101, 0x16), (0xC000, 0x11)] }).map
        (fun t => (t.rd 0xC000, t.f))
      = some (0x23, 0x00) := by
  decide

theorem test_step_RR_A :
    (ran { State.reset with pc := 0x0100, a := 0x01, f := 0x00, mem := [(0x0100, 0xCB), (0x0101, 0x1F)] }).map
        (fun t => (t.a, t.f))
      = some (0x00, 0x90) := by
  decide

theorem test_step_SRA_A :
    (ran { State.reset with pc := 0x0100, a := 0x8A, mem := [(0x0100, 0xCB), (0x0101, 0x2F)] }).map
        (fun t => (t.a, t.f))
      = some (0xC5, 0x00) := by
  decide

theorem test_step_SWAP_atHL :
    (ran { State.reset with pc := 0x0100, h := 0xC0, l := 0x00, f := 0x10, mem := [(0x0100, 0xCB), (0x0101, 0x36)] }).map
        (fun t => (t.rd 0xC000, t.f))
      = some (0x00, 0x80) := by
  decide

theorem test_step_SRL_atHL :
    (ran { State.reset with pc := 0x0100, h := 0xC0, l := 0x00, mem := [(0x0100, 0xCB), (0x0101, 0x3E), (0xC000, 0xFF)] }).map
        (fun t => (t.rd 0xC000, t.f))
      = some (0x7F, 0x10) := by
  decide

theorem test_step_BIT_7_A :
    (ran { State.reset with pc := 0x0100, a := 0x80, f := 0x10, mem := [(0x0100, 0xCB), (0x0101, 0x7F)] }).map
        (fun t => (t.a, t.f, t.cycles))
      = some (0x80, 0x30, 8) := by
  decide

theorem test_step_BIT_0_atHL :
    (ran { State.reset with pc := 0x0100, h := 0xC0, l := 0x00, f := 0x10, mem := [(0x0100, 0xCB), (0x0101, 0x46), (0xC000, 0xFE)] }).map
        (fun t => (t.rd 0xC000, t.f, t.cycles))
      = some (0xFE, 0xB0, 12) := by
  decide

theorem test_step_RES_7_A :
    (ran { State.reset with pc := 0x0100, a := 0x80, f := 0xF0, mem := [(0x0100, 0xCB), (0x0101, 0xBF)] }).map
        (fun t => (t.a, t.f, t.cycles))
      = some (0x00, 0xF0, 8) := by
  decide

theorem test_step_RES_3_atHL :
    (ran { State.reset with pc := 0x0100, h := 0xC0, l := 0x00, mem := [(0x0100, 0xCB), (0x0101, 0x9E), (0xC000, 0xFF)] }).map
        (fun t => (t.rd 0xC000, t.cycles))
      = some (0xF7, 16) := by
  decide

theorem test_step_SET_0_atHL :
    (ran { State.reset with pc := 0x0100, h := 0xC0, l := 0x00, f := 0xF0, mem := [(0x0100, 0xCB), (0x0101, 0xC6)] }).map
        (fun t => (t.rd 0xC000, t.f, t.cycles))
      = some (0x01, 0xF0, 16) := by
  decide

theorem test_step_SET_1_E :
    (ran { State.reset with pc := 0x0100, e := 0x00, mem := [(0x0100, 0xCB), (0x0101, 0xCB)] }).map
        (fun t => (t.e, t.pc))
      = some (0x02, 0x0102) := by
  decide

theorem test_step_JP_nn :
    (ran { State.reset with pc := 0x0100, mem := [(0x0100, 0xC3), (0x0101, 0x34), (0x0102, 0x12)] }).map
        (fun t => (t.pc, t.cycles))
      = some (0x1234, 16) := by
  decide

theorem test_step_JP_NZ_nn :
    (ran { State.reset with pc := 0x0100, f := 0x80, mem := [(0x0100, 0xC2), (0x0101, 0x34), (0x0102, 0x12)] }).map
        (fun t => (t.pc, t.cycles))
      = some (0x0103, 12) := by
  decide

theorem test_step_JP_Z_nn :
    (ran { State.reset with pc := 0x0100, f := 0x80, mem := [(0x0100, 0xCA), (0x0101, 0x34), (0x0102, 0x12)] }).map
        (fun t => (t.pc, t.cycles))
      = some (0x1234, 16) := by
  decide

theorem test_step_JP_HL :
    (ran { State.reset with pc := 0x0100, h := 0x80, l := 0x00, mem := [(0x0100, 0xE9)] }).map
        (fun t => (t.pc, t.cycles))
      = some (0x8000, 4) := by
  decide

theorem test_step_JR_e :
    (ran { State.reset with pc := 0xFF22, mem := [(0xFF22, 0x18), (0xFF23, 0x10)] }).map
        (fun t => (t.pc, t.cycles))
      = some (0xFF34, 12) := by
  decide

theorem test_step_JR_e_2 :
    (ran { State.reset with pc := 0x0100, mem := [(0x0100, 0x18), (0x0101, 0xFE)] }).map
        (fun t => (t.pc, t.cycles))
      = some (0x0100, 12) := by
  decide

theorem test_step_JR_Z_e :
    (ran { State.reset with pc := 0x0100, f := 0x80, mem := [(0x0100, 0x28), (0x0101, 0xFB)] }).map
        (fun t => (t.pc, t.cycles))
      = some (0x00FD, 12) := by
  decide

theorem test_step_CALL_nn :
    (ran { State.reset with pc := 0x8000, sp := 0x0000, mem := [(0x8000, 0xCD), (0x8001, 0x34), (0x8002, 0x12)] }).map
        (fun t => (t.pc, t.sp, t.rd 0xFFFF, t.rd 0xFFFE))
      = some (0x1234, 0xFFFE, 0x80, 0x03) := by
  decide

theorem test_step_CALL_Z_nn :
    (ran { State.reset with pc := 0x8000, sp := 0xFFFE, f := 0x80, mem := [(0x8000, 0xCC), (0x8001, 0x34), (0x8002, 0x12)] }).map
        (fun t => (t.pc, t.sp, t.rd 0xFFFD, t.rd 0xFFFC, t.cycles))
      = some (0x1234, 0xFFFC, 0x80, 0x03, 24) := by
  decide

theorem test_step_RET :
    (ran { State.reset with pc := 0x1234, sp := 0xFFFC, mem := [(0x1234, 0xC9), (0xFFFC, 0x03), (0xFFFD, 0x80)] }).map
        (fun t => (t.pc, t.sp, t.cycles))
      = some (0x8003, 0xFFFE, 16) := by
  decide

theorem test_step_RET_NZ :
    (ran { State.reset with pc := 0x1234, sp := 0xFFFC, f := 0x00, mem := [(0x1234, 0xC0), (0xFFFC, 0x03), (0xFFFD, 0x80)] }).map
        (fun t => (t.pc, t.sp, t.cycles))
      = some (0x8003, 0xFFFE, 20) := by
  decide

theorem test_step_RET_NZ_2 :
    (ran { State.reset with pc := 0x1234, sp := 0xFFFC, f := 0x80, mem := [(0x1234, 0xC0), (0xFFFC, 0x03), (0xFFFD, 0x80)] }).map
        (fun t => (t.pc, t.sp, t.cycles))
      = some (0x1235, 0xFFFC, 8) := by
  decide

theorem test_step_RETI :
    (ran { State.reset with pc := 0x1234, sp := 0xFFFC, ime := false, mem := [(0x1234, 0xD9), (0xFFFC, 0x03), (0xFFFD, 0x80)] }).map
        (fun t => (t.pc, t.sp, t.ime, t.cycles))
      = some (0x8003, 0xFFFE, true, 16) := by
  decide

theorem test_step_RST_28H :
    (ran { State.reset with pc := 0xFFFF, sp := 0xD000, mem := [(0xFFFF, 0xEF)] }).map
        (fun t => (t.pc, t.sp, t.rd 0xCFFF, t.rd 0xCFFE))
      = some (0x0028, 0xCFFE, 0x00, 0x00) := by
  decide

theorem test_step_PUSH_AF :
    (ran { State.reset with pc := 0x0100, a := 0x12, f := 0xB0, sp := 0xFFFE, mem := [(0x0100, 0xF5)] }).map
        (fun t => (t.sp, t.rd 0xFFFD, t.rd 0xFFFC))
      = some (0xFFFC, 0x12, 0xB0) := by
  decide

theorem test_step_PUSH_HL :
    (ran { State.reset with pc := 0x0100, h := 0xAB, l := 0xCD, sp := 0x0001, mem := [(0x0100, 0xE5)] }).map
        (fun t => (t.sp, t.rd 0x0000, t.rd 0xFFFF))
      = some (0xFFFF, 0xAB, 0xCD) := by
  decide

theorem test_step_POP_HL :
    (ran { State.reset with pc := 0x0100, sp := 0xFFFF, mem := [(0x0000, 0x12), (0x0100, 0xE1), (0xFFFF, 0x34)] }).map
        (fun t => (t.pair .hl, t.sp))
      = some (0x1234, 0x0001) := by
  decide

theorem test_step_POP_AF :
    (ran { State.reset with pc := 0x0100, sp := 0xFFFC, mem := [(0x0100, 0xF1), (0xFFFC, 0xFF), (0xFFFD, 0x12)] }).map
        (fun t => (t.a, t.f, t.sp, t.cycles))
      = some (0x12, 0xF0, 0xFFFE, 12) := by
  decide

theorem test_step_LD_SP_nn :
    (ran { State.reset with pc := 0x0100, mem := [(0x0100, 0x31), (0x0101, 0xFE), (0x0102, 0xFF)] }).map
        (fun t => (t.sp, t.cycles))
      = some (0xFFFE, 12) := by
  decide

theorem test_step_LD_atnn_SP :
    (ran { State.reset with pc := 0x0100, sp := 0xABCD, mem := [(0x0100, 0x08), (0x0101, 0xFF), (0x0102, 0xFF)] }).map
        (fun t => (t.rd 0xFFFF, t.rd 0x0000))
      = some (0xCD, 0xAB) := by
  decide

theorem test_step_LD_SP_HL :
    (ran { State.reset with pc := 0x0100, h := 0xC0, l := 0xDE, mem := [(0x0100, 0xF9)] }).map
        (fun t => (t.sp, t.cycles))
      = some (0xC0DE, 8) := by
  decide

theorem test_step_LD_HL_SPe :
    (ran { State.reset with pc := 0x0100, sp := 0xD000, mem := [(0x0100, 0xF8), (0x0101, 0xFE)] }).map
        (fun t => (t.pair .hl, t.f))
      = some (0xCFFE, 0x00) := by
  decide

theorem test_step_LD_B_C :
    (ran { State.reset with pc := 0x0100, c := 0x5A, f := 0xF0, mem := [(0x0100, 0x41)] }).map
        (fun t => (t.b, t.c, t.f, t.cycles))
      = some (0x5A, 0x5A, 0xF0, 4) := by
  decide

theorem test_step_LD_B_n :
    (ran { State.reset with pc := 0x0100, mem := [(0x0100, 0x06), (0x0101, 0xAB)] }).map
        (fun t => (t.b, t.pc, t.cycles))
      = some (0xAB, 0x0102, 8) := by
  decide

theorem test_step_LD_H_atHL :
    (ran { State.reset with pc := 0x0100, h := 0xC0, l := 0x00, mem := [(0x0100, 0x66), (0xC000, 0x5C)] }).map
        (fun t => t.pair .hl)
      = some 0x5C00 := by
  decide

theorem test_step_LD_atHL_H :
    (ran { State.reset with pc := 0x0100, h := 0xC0, l := 0xC1, mem := [(0x0100, 0x74)] }).map (fun t => t.rd 0xC0C1) = some 0xC0 := by
  decide

theorem test_step_LD_atHL_n :
    (ran { State.reset with pc := 0x0100, h := 0xC0, l := 0x00, mem := [(0x0100, 0x36), (0x0101, 0x99)] }).map
        (fun t => (t.rd 0xC000, t.pc, t.cycles))
      = some (0x99, 0x0102, 12) := by
  decide

theorem test_step_LD_HLinc_A :
    (ran { State.reset with pc := 0x0100, a := 0x56, h := 0xFF, l := 0xFF, mem := [(0x0100, 0x22)] }).map
        (fun t => (t.rd 0xFFFF, t.pair .hl, t.cycles))
      = some (0x56, 0x0000, 8) := by
  decide

theorem test_step_LD_A_HLinc :
    (ran { State.reset with pc := 0x0100, h := 0x01, l := 0xFF, mem := [(0x0100, 0x2A), (0x01FF, 0x56)] }).map
        (fun t => (t.a, t.pair .hl, t.cycles))
      = some (0x56, 0x0200, 8) := by
  decide

theorem test_step_LD_HLdec_A :
    (ran { State.reset with pc := 0x0100, a := 0x05, h := 0x40, l := 0x00, mem := [(0x0100, 0x32)] }).map
        (fun t => (t.rd 0x4000, t.pair .hl))
      = some (0x05, 0x3FFF) := by
  decide

theorem test_step_LD_A_HLdec :
    (ran { State.reset with pc := 0x0100, h := 0x00, l := 0x00, mem := [(0x0000, 0x3C), (0x0100, 0x3A)] }).map
        (fun t => (t.a, t.pair .hl))
      = some (0x3C, 0xFFFF) := by
  decide

theorem test_step_LD_A_atDE :
    (ran { State.reset with pc := 0x0100, d := 0xC0, e := 0x01, mem := [(0x0100, 0x1A), (0xC001, 0x5F)] }).map
        (fun t => (t.a, t.cycles))
      = some (0x5F, 8) := by
  decide

theorem test_step_LD_atBC_A :
    (ran { State.reset with pc := 0x0100, a := 0x3F, b := 0x20, c := 0x5F, mem := [(0x0100, 0x02)] }).map
        (fun t => (t.rd 0x205F, t.cycles))
      = some (0x3F, 8) := by
  decide

theorem test_step_LD_A_atnn :
    (ran { State.reset with pc := 0x0100, mem := [(0x0100, 0xFA), (0x0102, 0x80), (0x8000, 0x5C)] }).map
        (fun t => (t.a, t.pc, t.cycles))
      = some (0x5C, 0x0103, 16) := by
  decide

theorem test_step_LD_atnn_A :
    (ran { State.reset with pc := 0x0100, a := 0x2F, mem := [(0x0100, 0xEA), (0x0101, 0x04), (0x0102, 0xFF), (0xFF04, 0x55)] }).map
        (fun t => t.rd 0xFF04)
      = some 0x00 := by
  decide

theorem test_step_LDH_A_atn :
    (ran { State.reset with pc := 0x0100, mem := [(0x0100, 0xF0), (0x0101, 0x34), (0xFF34, 0x5F)] }).map
        (fun t => (t.a, t.pc, t.cycles))
      = some (0x5F, 0x0102, 12) := by
  decide

theorem test_step_LDH_atn_A :
    (ran { State.reset with pc := 0x0100, a := 0x2F, mem := [(0x0100, 0xE0), (0x0101, 0x34)] }).map
        (fun t => (t.rd 0xFF34, t.cycles))
      = some (0x2F, 12) := by
  decide

theorem test_step_LD_atC_A :
    (ran { State.reset with pc := 0x0100, a := 0x3A, c := 0x9F, mem := [(0x0100, 0xE2)] }).map
        (fun t => (t.rd 0xFF9F, t.pc, t.cycles))
      = some (0x3A, 0x0101, 8) := by
  decide

theorem test_step_NOP :
    (ran { State.reset with pc := 0x0100, f := 0xF0 }).map (fun t => (t.pc, t.f, t.cycles)) = some (0x0101, 0xF0, 4) := by
  decide

theorem test_step_HALT :
    (ran { State.reset with pc := 0x0100, mem := [(0x0100, 0x76), (0x0101, 0x3C)] }).map
        (fun t => (t.pc, t.run, t.cycles))
      = some (0x0101, .halted, 4) := by
  decide

theorem test_step_STOP :
    (ran { State.reset with pc := 0x0100, mem := [(0x0100, 0x10), (0x0102, 0x3C)] }).map
        (fun t => (t.pc, t.run, t.cycles))
      = some (0x0102, .stopped, 4) := by
  decide

theorem test_step_DI :
    (ran { State.reset with pc := 0x0100, ime := true, mem := [(0x0100, 0xF3)] }).map
        (fun t => (t.ime, t.pc, t.cycles))
      = some (false, 0x0101, 4) := by
  decide

theorem test_step_EI :
    (ran { State.reset with pc := 0x0100, ime := false, mem := [(0x0100, 0xFB)] }).map
        (fun t => (t.ime, t.pc, t.cycles))
      = some (true, 0x0101, 4) := by
  decide

theorem test_step_INVALID :
    (ran { State.reset with pc := 0x0100, a := 0x12, f := 0xF0, mem := [(0x0100, 0xD3)] }).map
        (fun t => (t.pc, t.a, t.f, t.cycles))
      = some (0x0101, 0x12, 0xF0, 4) := by
  decide

theorem test_step_interrupt_2 :
    (ran { State.reset with pc := 0x0200, ime := true, sp := 0xD000, mem := [(0xFF0F, 0x10), (0xFFFF, 0x1F)] }).map
        (fun t => (t.pc, t.rd 0xFF0F, t.ime))
      = some (0x0060, 0x00, false) := by
  decide

theorem test_step_interrupt_3 :
    (ran { State.reset with pc := 0x0200, ime := true, sp := 0xD000, mem := [(0xFF0F, 0x04), (0xFFFF, 0x1B)] }).map
        (fun t => (t.pc, t.rd 0xFF0F, t.ime))
      = some (0x0201, 0x04, true) := by
  decide

theorem test_step_interrupt_4 :
    (ran { State.reset with pc := 0x0200, ime := true, sp := 0xD000, mem := [(0xFF0F, 0xE0), (0xFFFF, 0xE0)] }).map
        (fun t => (t.pc, t.rd 0xFF0F, t.ime))
      = some (0x0201, 0xE0, true) := by
  decide

theorem test_step_interrupt_5 :
    (ran { State.reset with pc := 0x0200, sp := 0xD000, ime := false, mem := [(0x0200, 0xFB), (0xFF0F, 0x01), (0xFFFF, 0x01)] }).map
        (fun t => (t.pc, t.rd 0xFF0F, t.ime, t.sp, t.rd 0xCFFF, t.rd 0xCFFE))
      = some (0x0040, 0x00, false, 0xCFFE, 0x02, 0x01) := by
  decide

theorem test_step_interrupt_6 :
    (ran { State.reset with
        pc := 0x0200, sp := 0xD000, ime := true
        mem := [(0x0200, 0xC3), (0x0202, 0x80), (0xFF0F, 0x02), (0xFFFF, 0x02)] }).map
        (fun t => (t.pc, t.rd 0xCFFF, t.rd 0xCFFE, t.cycles))
      = some (0x0048, 0x80, 0x00, 16) := by
  decide

theorem test_step_interrupt_7 :
    (ran { State.reset with
        pc := 0x0050, sp := 0xCFFE, ime := false
        mem := [(0x0050, 0xD9), (0xCFFE, 0x01), (0xCFFF, 0x02), (0xFF0F, 0x04), (0xFFFF, 0x04)] }).map
        (fun t => (t.pc, t.rd 0xFF0F, t.ime, t.sp, t.rd 0xCFFF, t.rd 0xCFFE))
      = some (0x0050, 0x00, false, 0xCFFE, 0x02, 0x01) := by
  decide

theorem test_step_timer_1 :
    (ran { State.reset with pc := 0x0100, ime := false, sp := 0xD000, divAcc := 252, mem := [(0xFF04, 0xFF)] }).map
        (fun t => (t.divAcc, t.rd 0xFF04))
      = some (0, 0x00) := by
  decide

theorem test_step_timer_2 :
    (ran { State.reset with
        pc := 0x0100, ime := false, sp := 0xD000, divAcc := 100
        mem := [(0x0100, 0xE0), (0x0101, 0x04), (0xFF04, 0x55)] }).map
        (fun t => (t.rd 0xFF04, t.divAcc))
      = some (0x00, 112) := by
  decide

theorem test_step_timer_3 :
    (ran { State.reset with pc := 0x0100, ime := false, sp := 0xD000, timaAcc := 12, mem := [(0xFF07, 0xFD)] }).map
        (fun t => (t.timaAcc, t.rd 0xFF05))
      = some (0, 0x01) := by
  decide

theorem test_step_timer_4 :
    (ran { State.reset with
        pc := 0x0100, ime := false, sp := 0xD000, timaAcc := 15
        mem := [(0x0100, 0xCD), (0x0102, 0x20), (0xFF05, 0xFF), (0xFF07, 0x05)] }).map
        (fun t => (t.rd 0xFF05, t.timaAcc))
      = some (0x01, 7) := by
  decide

theorem test_step_timer_5 :
    (ran { State.reset with
        pc := 0x0100, ime := false, sp := 0xD000, timaAcc := 12
        mem := [(0xFF05, 0xFF), (0xFF06, 0xAB), (0xFF07, 0x05)] }).map
        (fun t => (t.rd 0xFF05, t.rd 0xFF0F, t.timaAcc))
      = some (0xAB, 0x04, 0) := by
  decide

theorem test_step_timer_6 :
    (ran { State.reset with pc := 0x0100, ime := false, sp := 0xD000, c := 0x07, a := 0x05, mem := [(0x0100, 0xE2)] }).map
        (fun t => (t.rd 0xFF07, t.timaAcc))
      = some (0x05, 8) := by
  decide

theorem test_step_display_1 :
    (ran { State.reset with pc := 0x0100, sp := 0xD000, lcdAcc := 200, mem := [(0x0100, 0xCD), (0x0102, 0x20)] }).map
        (fun t => (t.rd 0xFF41, t.rd 0xFF44, t.lcdAcc))
      = some (0x01, 0x01, 0) := by
  decide

theorem test_step_display_2 :
    (ran { State.reset with pc := 0x0100, sp := 0xD000, lcdAcc := 4552, mem := [(0xFF41, 0x01)] }).map
        (fun t => (t.lcdAcc, t.rd 0xFF41))
      = some (4556, 0x01) := by
  decide

theorem test_step_display_3 :
    (ran { State.reset with pc := 0x0100, sp := 0xD000, lcdAcc := 4556, mem := [(0xFF41, 0x01)] }).map
        (fun t => (t.lcdAcc, t.rd 0xFF41))
      = some (0, 0x02) := by
  decide

theorem test_step_display_4 :
    (ran { State.reset with pc := 0x0100, sp := 0xD000, lcdAcc := 200, mem := [(0xFF41, 0xFC), (0xFF44, 0x99)] }).map
        (fun t => (t.rd 0xFF41, t.rd 0xFF44, t.lcdAcc))
      = some (0xFD, 0x00, 0) := by
  decide

theorem test_step_display_5 :
    (ran { State.reset with pc := 0x0100, sp := 0xD000, lcdAcc := 200, mem := [(0xFF44, 0xFF)] }).map
        (fun t => (t.rd 0xFF41, t.rd 0xFF44))
      = some (0x01, 0x66) := by
  decide

theorem test_step_display_6 :
    (ran { State.reset with pc := 0x0100, sp := 0xD000, a := 0x03, lcdAcc := 196, mem := [(0x0100, 0xE0), (0x0101, 0x41)] }).map
        (fun t => (t.rd 0xFF41, t.lcdAcc, t.rd 0xFF44))
      = some (0x00, 0, 0x00) := by
  decide

/-! ### Configuration, memory, interface -/

theorem test_config_wf : config.wf = true := by decide

theorem test_reset_memory_canonical : State.reset.mem.wf = true := by decide

/-- A byte written and then made equal to what an unlisted address reads leaves no entry. -/
theorem test_memory_write_canonical :
    Memory.write (Memory.write (Memory.write [] 0xC000 5) 0xBFFF 6) 0xC000 0 = [(0xBFFF, 6)] := by decide

/-- The shape the canonical form refuses: addresses out of order. -/
theorem test_memory_wf_refuses : Memory.wf [(0xC000, 5), (0xBFFF, 6)] = false := by decide

/-- The table word of an extended row has the marker in its HIGH byte (R112). -/
theorem test_table_word_ext : decodeTableWord 16 0xCB37 = some .swap_A := by decide

/-- The table word of a base row with an immediate counts on from bit 8. -/
theorem test_table_word_imm : decodeTableWord 24 0x1234C3 = some (.jp_nn 0x1234) := by decide

theorem test_fetch_word_runs :
    (ran (State.reset.withFetchWord 16 0xCBC7)).map (fun t => (t.a, t.pc, t.cycles)) = some (0x01, 0x0002, 8) := by
  decide

/-- S9 of 95_test_vectors.md with `IRQ_PUSH_PC` false. -/
theorem test_entry_without_push :
    let s := { State.reset with pc := 0x0201, sp := 0xD000, mem := [(0xFF0F, 0x04), (0xFFFF, 0x04)] }
    let t := interruptEvaluate { config with irqPushPc := false } s
    (t.pc, t.ime, t.sp, t.mem) = (0x0050, false, 0xD000, [(0xFFFF, 0x04)]) := by
  decide

/-- U3 of 93_implementation_defined.md: the host's write of F with a low nibble is refused. -/
theorem test_host_flags : hostSetFlags 0x0F State.reset = none ∧ (hostSetFlags 0xB0 State.reset).isSome = true := by decide

/-- `set_bit` on the divider stores 0 (D28). -/
theorem test_host_set_bit_div :
    (hostSetBit config 0xFF04 3 { State.reset with mem := [(0xFF04, 0x77)] }).rd 0xFF04 = 0 := by
  decide

theorem test_load_rom : (loadRom [0x3E, 0x01] State.reset) = (2, { State.reset with mem := [(0, 0x3E), (1, 0x01)] }) := by
  decide

/-! ### Witnesses: hypotheses that can be met

For each statement with hypotheses, a concrete state and operands that meet them; a statement of several clauses has one for each,
at a boundary. -/

/-- A plain running state: every field but memory and the accumulators away from its reset value. -/
def mid : State :=
  { State.reset with
    a := 0x9A
    f := 0xB0
    b := 0x12
    c := 0x34
    h := 0xC0
    sp := 0xD000
    pc := 0x0200 }

theorem witness_DecodeOfEncodedInstruction :
    (Instr.jp_nn 0xFFFF).wellFormed = true ∧ (Instr.jr_e 0x80).wellFormed = true ∧ Instr.set_1_E.wellFormed = true := by
  decide

theorem witness_PushThenPopRoundTrips :
    mid.sp - 1 ≠ config.addrDiv ∧ mid.sp - 2 ≠ config.addrDiv ∧ mid.flagsClean ∧ ∃ t, exec (pushInstr .af) mid = .next t :=
  ⟨by decide, by decide, by unfold State.flagsClean; decide, _, rfl⟩

/-- The lowest stack pointer above the divider that the statement admits. -/
theorem witness_PushThenPopRoundTrips_above_div :
    let s := { mid with sp := 0xFF07 }
    s.sp - 1 ≠ config.addrDiv ∧ s.sp - 2 ≠ config.addrDiv ∧ s.flagsClean ∧ ∃ t, exec (pushInstr .bc) s = .next t :=
  ⟨by decide, by decide, by unfold State.flagsClean; decide, _, rfl⟩

theorem witness_CallThenReturnRoundTrips :
    mid.sp - 1 ≠ config.addrDiv ∧ mid.sp - 2 ≠ config.addrDiv ∧ ∃ t, exec (.call_nn 0xFFFF) mid = .next t :=
  ⟨by decide, by decide, _, rfl⟩

theorem witness_StepRunsDecodedInstruction :
    let s := { mid with pc := 0xFFFF, mem := [(0x0000, 0x34), (0x0001, 0x12), (0xFFFF, 0xC3)] }
    s.run = .running ∧ decodeBytes [s.rd s.pc, s.rd (s.pc + 1), s.rd (s.pc + 2)] = .ok (.jp_nn 0x1234, [])
      ∧ ∃ t, exec (.jp_nn 0x1234) s = .next t :=
  ⟨rfl, rfl, _, rfl⟩

theorem witness_HaltedCoreDoesNothing :
    { mid with run := .halted }.run ≠ .running ∧ { mid with run := .stopped }.run ≠ .running := by
  decide

/-- The invariant and a next state, at reset and with every bound reached. -/
theorem witness_InvariantKeptByEveryStep :
    let s := { mid with timaAcc := 1023, lcdAcc := 4559, mem := [(0x0200, 0x34), (0xC000, 0x01), (0xFFFF, 0xFF)] }
    (State.reset.Inv ∧ ∃ t, step State.reset = .next t) ∧ s.Inv ∧ ∃ t, step s = .next t :=
  ⟨⟨⟨rfl, rfl, by decide, by decide⟩, _, rfl⟩, ⟨rfl, rfl, by decide, by decide⟩, _, rfl⟩

theorem witness_CycleCounterOnlyObserved : ∃ t, step mid = .next t := ⟨_, rfl⟩

/-- For the first clause: a plain instruction, and HALT (writes the run state, not the gate) and EI (the reverse). -/
theorem witness_OnlyNamedInstructionsWriteControl :
    (writesGate .inc_B = false ∧ writesRun .inc_B = false ∧ ∃ t, exec .inc_B mid = .next t)
      ∧ (writesGate .halt = false ∧ ∃ t, exec .halt mid = .next t) ∧ writesRun .ei = false ∧ ∃ t, exec .ei mid = .next t :=
  ⟨⟨rfl, rfl, _, rfl⟩, ⟨rfl, _, rfl⟩, rfl, _, rfl⟩

/-- For the second clause: EI and RETI turn the gate on in a whole step, no source being pending. -/
theorem witness_OnlyNamedInstructionsWriteControl_gate :
    (∃ t, step { mid with ime := false, mem := [(0x0200, 0xFB)] } = .next t ∧ t.ime = true)
      ∧ ∃ t, step { mid with ime := false, mem := [(0x0200, 0xD9)] } = .next t ∧ t.ime = true :=
  ⟨⟨_, rfl, rfl⟩, _, rfl, rfl⟩

/-- For the third clause: HALT and STOP end Running. -/
theorem witness_OnlyNamedInstructionsWriteControl_run :
    (∃ t, step { mid with mem := [(0x0200, 0x76)] } = .next t ∧ t.run ≠ .running)
      ∧ ∃ t, step { mid with mem := [(0x0200, 0x10)] } = .next t ∧ t.run ≠ .running :=
  ⟨⟨_, rfl, by decide⟩, _, rfl, by decide⟩

/-- A row that keeps, one that computes, one that forces, and one that names no flag (F whole unchanged). -/
theorem witness_FlagsFollowTheTable :
    (Instr.inc_B.wellFormed = true ∧ ∃ t, exec .inc_B mid = .next t)
      ∧ (Instr.scf.wellFormed = true ∧ ∃ t, exec .scf mid = .next t)
      ∧ Instr.ld_B_C.wellFormed = true ∧ flagRow (opcodeOf .ld_B_C) = noFlags ∧ ∃ t, exec .ld_B_C mid = .next t :=
  ⟨⟨rfl, _, rfl⟩, ⟨rfl, _, rfl⟩, rfl, rfl, _, rfl⟩

/-- The table of R27 read at the ends of its ranges. -/
theorem test_flag_rows_boundaries :
    [0x7F, 0x80, 0x8F, 0x90, 0x9F, 0xA0, 0xA7, 0xA8, 0xB7, 0xB8, 0xBF, 0xC0].map baseFlagRow
        = [noFlags, baseFlagRow 0xC6, baseFlagRow 0xCE, baseFlagRow 0xD6, baseFlagRow 0xDE, baseFlagRow 0xE6, baseFlagRow 0xE6,
            baseFlagRow 0xEE, baseFlagRow 0xF6, baseFlagRow 0xFE, baseFlagRow 0xFE, noFlags]
      ∧ [0x3C, 0x3D, 0x39, 0x44, 0x45, 0x49].map baseFlagRow
        = [baseFlagRow 0x04, baseFlagRow 0x05, baseFlagRow 0x09, noFlags, noFlags, noFlags]
      ∧ [0x2F, 0x30, 0x37, 0x38, 0x3F, 0x40, 0x7F, 0x80].map extFlagRow
        = [extFlagRow 0, extFlagRow 0x37, extFlagRow 0x30, extFlagRow 0, extFlagRow 0, extFlagRow 0x7F, extFlagRow 0x40, noFlags] := by
  decide

/-- A form that stores nothing, one that stores a byte, one that stores two, and an address outside each. -/
theorem witness_StoresFollowTheTable :
    (Instr.inc_B.wellFormed = true ∧ (∃ t, exec .inc_B mid = .next t) ∧ mid.hl ∉ storesTo .inc_B mid)
      ∧ (Instr.res_0_atHL.wellFormed = true ∧ (∃ t, exec .res_0_atHL mid = .next t) ∧ mid.hl + 1 ∉ storesTo .res_0_atHL mid)
      ∧ (Instr.bit_0_atHL.wellFormed = true ∧ (∃ t, exec .bit_0_atHL mid = .next t) ∧ mid.hl ∉ storesTo .bit_0_atHL mid)
      ∧ Instr.push_BC.wellFormed = true ∧ (∃ t, exec .push_BC mid = .next t) ∧ mid.sp ∉ storesTo .push_BC mid :=
  ⟨⟨rfl, ⟨_, rfl⟩, by decide⟩, ⟨rfl, ⟨_, rfl⟩, by decide⟩, ⟨rfl, ⟨_, rfl⟩, by decide⟩, rfl, ⟨_, rfl⟩, by decide⟩

/-- A condition that holds and one that does not. -/
theorem witness_CostsFollowTheTable :
    (Instr.jr_Z_e 0x80).wellFormed = true ∧ (∃ t, exec (.jr_Z_e 0x80) mid = .next t) ∧ taken (.jr_Z_e 0x80) mid = true
      ∧ (∃ t, exec (.jr_NZ_e 0x80) mid = .next t) ∧ taken (.jr_NZ_e 0x80) mid = false :=
  ⟨rfl, ⟨_, rfl⟩, rfl, ⟨_, rfl⟩, rfl⟩

/-- The highest source with all five pending, and the lowest alone. -/
theorem witness_HighestPrioritySourceIsTaken :
    (let s := { mid with ime := true, mem := [(0xFF0F, 0x1F), (0xFFFF, 0x1F)] };
      s.ime = true ∧ (s.rd config.addrIf).getLsbD (config.irqBit .vblank) = true
        ∧ (s.rd config.addrIe).getLsbD (config.irqBit .vblank) = true
        ∧ ∀ k : Nat, k < config.irqBit .vblank → ((s.rd config.addrIf).getLsbD k && (s.rd config.addrIe).getLsbD k) = false)
      ∧ let s := { mid with ime := true, mem := [(0xFF0F, 0xF0), (0xFFFF, 0x1F)] };
        s.ime = true ∧ (s.rd config.addrIf).getLsbD (config.irqBit .joypad) = true
          ∧ (s.rd config.addrIe).getLsbD (config.irqBit .joypad) = true
          ∧ ∀ k : Nat, k < config.irqBit .joypad → ((s.rd config.addrIf).getLsbD k && (s.rd config.addrIe).getLsbD k) = false := by
  decide

/-- Nothing taken: the gate off; and bits above the five sources alone. -/
theorem witness_HighestPrioritySourceIsTaken_none :
    { mid with ime := false }.ime = false
      ∧ let s := { mid with ime := true, mem := [(0xFF0F, 0xE0), (0xFFFF, 0xE0)] }
        ∀ k : Nat, k < 5 → ((s.rd config.addrIf).getLsbD k && (s.rd config.addrIe).getLsbD k) = false := by
  decide

/-- Neither byte of a push at this SP falls on the register. -/
abbrev AwayFrom (p r : Word) : Prop := p - 1 ≠ r ∧ p - 2 ≠ r

/-- The nearest stack pointers on both sides of IF, and a byte number in range. -/
theorem witness_InterruptEntryEffect :
    AwayFrom 0xFF0F config.addrDiv ∧ AwayFrom 0xFF0F config.addrIf ∧ AwayFrom 0xFF12 config.addrDiv ∧ AwayFrom 0xFF12 config.addrIf
      ∧ (0xC000 : Word) ≠ config.addrIf ∧ (0xC000 : Word) ≠ 0xFF0E ∧ (0xC000 : Word) ≠ 0xFF0D ∧ (7 : Nat) < 8 := by
  decide

/-- A Running core about to execute an INVALID and a Halted one, at parameters with stated widths and without the push. -/
theorem witness_StepAtAnyParameters :
    let cfg := { config with irqPushPc := false, cycleCounterWidth := some 32, accWidth := some 13 }
    let s := { mid with pc := 0xC000, mem := [(0xC000, 0xD3)] }
    s.run = .running ∧ isInvalid (fetch s) = true ∧ (∃ t, stepWith cfg s = .next t)
      ∧ ({ s with run := .halted } : State).run ≠ .running :=
  ⟨rfl, rfl, ⟨_, rfl⟩, by decide⟩

/-- A NOP at stated widths: 254 + 4 cycles in an 8-bit counter are 2, and 254 + 4 in an 8-bit display accumulator are 2. -/
theorem test_stepWith_widths :
    (match stepWith { config with cycleCounterWidth := some 8, accWidth := some 8 }
        { State.reset with pc := 0xC000, cycles := 254, lcdAcc := 254 } with
      | .next t => t.cycles == 2 && t.lcdAcc == 2 && t.divAcc == 4 && t.pc == 0xC001
      | .fault _ => false
      | .refused _ => false) = true := by
  decide

theorem witness_InterruptEntryWithoutPush : { config with irqPushPc := false }.irqPushPc = false := rfl

/-- The statement admits a stack byte that falls on IF. -/
theorem witness_RetiUndoesInterruptEntry :
    AwayFrom 0xD000 config.addrDiv ∧ AwayFrom 0xFF10 config.addrDiv ∧ AwayFrom 0xFF03 config.addrDiv := by
  decide

/-- TAC off; TAC on with the accumulator just reaching the threshold and TIMA going to 255. -/
theorem witness_TickAccounting :
    (State.reset.rd config.addrTac).getLsbD 2 = false
      ∧ let s := { State.reset with timaAcc := 15, mem := [(0xFF05, 0xFE), (0xFF07, 0x05)] }
        (s.rd config.addrTac).getLsbD 2 = true ∧ (s.rd config.addrTima).toNat + (s.timaAcc + 1) / 16 ≤ 255 := by
  decide

theorem witness_TickOverflowReloads :
    { State.reset with mem := [(0xFF05, 0xFE)] }.rd config.addrTima ≠ 0xFF
      ∧ { State.reset with mem := [(0xFF05, 0xFF)] }.rd config.addrTima = 0xFF ∧ (0xFF04 : Word) ≠ config.addrTima
      ∧ (0xFF04 : Word) ≠ config.addrIf := by
  decide

/-- What the statement asks of a start state and a list of costs. -/
abbrev ExactCycles (s : State) (costs : List Nat) : Prop :=
  (s.rd config.addrTac).getLsbD 2 = true ∧ s.rd config.addrTima = 0 ∧ s.timaAcc = 0
    ∧ costs.sum = 256 * [1024, 16, 64, 256].getD ((s.rd config.addrTac).toNat % 4) 0 - 1

/-- The totals of S5 of 95_test_vectors.md at the lowest and the highest rate, the second in several calls. -/
theorem witness_TimerOverflowAfterExactCycles :
    ExactCycles { State.reset with mem := [(0xFF07, 0x04)] } [262143]
      ∧ ExactCycles { State.reset with mem := [(0xFF07, 0x05)] } [4000, 24, 71] :=
  ⟨⟨rfl, rfl, rfl, rfl⟩, rfl, rfl, rfl, rfl⟩

/-- One cycle short of each mode's duration, and exactly at it. -/
theorem witness_DisplayModeTransitions :
    ∀ p ∈ [((0 : Byte), 204), (1, 4560), (2, 80), (3, 172)],
      let s := { State.reset with mem := if p.1 = 0 then [] else [(0xFF41, p.1)] }
      let dur := [204, 4560, 80, 172].getD ((s.rd config.addrStat).toNat % 4) 0
      s.lcdAcc + (p.2 - 1) < dur ∧ dur ≤ s.lcdAcc + p.2 := by
  decide

theorem witness_AccumulatorRotateResults :
    (Instr.rra, RotOp.rr, 0x1F) ∈ [(Instr.rlca, RotOp.rlc, 0x07), (.rrca, .rrc, 0x0F), (.rla, .rl, 0x17), (.rra, .rr, 0x1F)] := by
  decide

theorem witness_LoadAccumulatorResults (s : State) (nn : Word) (n : Byte) :
    (Instr.ldh_A_atn n, [0xF0, n.toNat], BitVec.ofNat 16 (0xFF00 + n.toNat), 2, 12) ∈
      [(Instr.ld_A_atBC, [0x0A], s.pair .bc, 1, 8), (.ld_A_atDE, [0x1A], s.pair .de, 1, 8),
        (.ld_A_atnn nn, [0xFA, nn.toNat % 256, nn.toNat / 256], nn, 3, 16),
        (.ldh_A_atn n, [0xF0, n.toNat], BitVec.ofNat 16 (0xFF00 + n.toNat), 2, 12),
        (.ld_A_atC, [0xF2], BitVec.ofNat 16 (0xFF00 + s.c.toNat), 1, 8)] := by
  simp

theorem witness_StoreAccumulatorResults (s : State) (nn : Word) (n : Byte) :
    (Instr.ld_atnn_A nn, [0xEA, nn.toNat % 256, nn.toNat / 256], nn, 3, 16) ∈
      [(Instr.ld_atBC_A, [0x02], s.pair .bc, 1, 8), (.ld_atDE_A, [0x12], s.pair .de, 1, 8),
        (.ld_atnn_A nn, [0xEA, nn.toNat % 256, nn.toNat / 256], nn, 3, 16),
        (.ldh_atn_A n, [0xE0, n.toNat], BitVec.ofNat 16 (0xFF00 + n.toNat), 2, 12),
        (.ld_atC_A, [0xE2], BitVec.ofNat 16 (0xFF00 + s.c.toNat), 1, 8)] := by
  simp

theorem witness_HlStepResults :
    (Instr.ld_A_atHLinc, 0x2A, 1) ∈ [(Instr.ld_A_atHLinc, 0x2A, 1), (.ld_A_atHLdec, 0x3A, 65535)]
      ∧ (Instr.ld_atHLdec_A, 0x32, 65535) ∈ [(Instr.ld_atHLinc_A, 0x22, 1), (.ld_atHLdec_A, 0x32, 65535)] := by
  decide

theorem witness_SystemResults :
    (Instr.invalid_D3, 0xD3) ∈ [(Instr.nop, 0x00), (.invalid_D3, 0xD3), (.invalid_DB, 0xDB), (.invalid_DD, 0xDD),
        (.invalid_E3, 0xE3), (.invalid_E4, 0xE4), (.invalid_EB, 0xEB), (.invalid_EC, 0xEC), (.invalid_ED, 0xED),
        (.invalid_F4, 0xF4), (.invalid_FC, 0xFC), (.invalid_FD, 0xFD)] := by
  decide

/-- Both outcomes of a condition. -/
theorem witness_conditions : holds .z mid = true ∧ holds .nz mid = false ∧ holds .c mid = true ∧ holds .nc mid = false := by
  decide

/-- The stores of the statements reach both cases of `Stored`: an ordinary address and the divider. -/
theorem witness_stored_cases : (0xC000 : Word) ≠ config.addrDiv ∧ (0xFF04 : Word) = config.addrDiv := by decide

end Sys2Proof.Tests
end

section
/-! SUPPORT. What one instruction costs at any parameters (00_scope.md rule R7, 43_control.md rule R213, 46_system.md rule R260), and from it
the step at any parameters. The cost is read off the three bytes an instruction is run from: one lemma a quadrant of the base page, one for
the extended page. That those bytes decode to the instruction again (`decode_encode_bytes`) carries it over to the instruction itself. -/
namespace Sys2Proof.Machine

open Sys2Proof.Claims

/-! ### Encoding and decoding -/

/-- Three bytes of a base opcode whose last two are a 16-bit operand (R66, R98). -/
theorem decode_operand16 {b : Byte} (nn : Word) (hb : b ≠ prefixByte) :
    decode b (lo8 nn) (hi8 nn) = decodeBase b (lo8 nn) nn := by
  rw [decode, if_neg hb, cat16_hi8_lo8]

/-- The bytes of an instruction, zeros after them, decode to it. -/
theorem decode_encode_bytes {i : Instr} (h : i.wellFormed = true) :
    decode ((encode i).getD 0 0) ((encode i).getD 1 0) ((encode i).getD 2 0) = i := by
  cases i with
  | prefix_CB op2 => cases h
  | ld_BC_nn nn | ld_DE_nn nn | ld_HL_nn nn | ld_SP_nn nn | ld_atnn_SP nn | ld_atnn_A nn | ld_A_atnn nn | jp_nn nn | jp_NZ_nn nn
  | jp_Z_nn nn | jp_NC_nn nn | jp_C_nn nn | call_nn nn | call_NZ_nn nn | call_Z_nn nn | call_NC_nn nn | call_C_nn nn =>
    simp only [encode, List.getD_cons_zero, List.getD_cons_succ]
    rw [decode_operand16 nn (by decide)]
    rfl
  | _ =>
    simp only [encode, List.getD_cons_zero, List.getD_cons_succ]
    rfl

/-- The opcode of an instruction by its bytes (R93). -/
theorem opcodeOf_eq_bytes (i : Instr) :
    opcodeOf i = if (encode i).getD 0 0 = prefixByte then .ext ((encode i).getD 1 0) else .base ((encode i).getD 0 0) := by
  cases i <;> rfl

/-- The marker is the one byte in column 3, row 1 of quadrant 3 (R92, R102). -/
theorem eq_prefixByte_of_fields : ∀ b : Byte, fieldX b = .k3 → fieldY b = .k1 → fieldZ b = .k3 → b = prefixByte := by
  decide

/-! ### The cost of an answer -/

/-- The answer is a next state whose cycle counter is `cost` above that of `s`. -/
def Costs (r : Result) (s : State) (cost : Nat) : Prop := ∃ t, r = .next t ∧ t.cycles = s.cycles + cost

/-- What R213 and R260 say that instruction `i` of opcode `op` adds to the cycle counter. -/
def costAt (cfg : Config) (op : Opcode) (i : Instr) (s : State) : Nat :=
  if isInvalid i then cfg.invalidCycles else cfg.cycles op (taken i s)

/-- A transfer of control costs what it is given, if what came before it left the counter alone. -/
theorem costs_transfer {s u : State} (cost : Nat) (x : Word) (h : u.cycles = s.cycles) :
    Costs (.next (transfer cost x u)) s cost :=
  ⟨_, rfl, by rw [transfer_cycles, h]⟩

/-- An instruction that retires costs its entry of the table, if its effect left the counter alone. -/
theorem costs_retire (cfg : Config) (op : Opcode) (len : Nat) {s u : State} (h : u.cycles = s.cycles) :
    Costs (.next (retire cfg op len u)) s (cfg.cycles op true) :=
  costs_transfer _ _ h

theorem invalidOpcode_costs (cfg : Config) (s : State) : Costs (invalidOpcode cfg s) s cfg.invalidCycles :=
  costs_transfer _ _ rfl

theorem retFromInterrupt_costs (cfg : Config) (op : Opcode) (s : State) :
    Costs (retFromInterrupt cfg op s) s (cfg.cycles op true) :=
  ⟨_, rfl, rfl⟩

/-! ### The quadrants of the base page -/

/-- Quadrant 0 (R99): only the relative jumps on a condition have a second cost. -/
theorem runQuadrant0_costs (cfg : Config) (op : Opcode) (y z : Code3) (n : Byte) (nn : Word) (s : State) :
    Costs (runQuadrant0 cfg op y z n nn s) s (costAt cfg op (decodeQuadrant0 y z n nn) s) := by
  cases z with
  | k0 =>
    cases y with
    | k4 | k5 | k6 | k7 => exact jumpRelIf_cost cfg op _ n s
    | k0 | k1 | k2 | k3 => exact costs_transfer _ _ rfl
  | _ => cases y <;> exact costs_retire cfg op _ rfl

theorem costAt_loadInstr (cfg : Config) (op : Opcode) (dst src : Operand8) (s : State) :
    costAt cfg op (loadInstr dst src) s = cfg.cycles op true := by
  rcases dst with (_ | _ | _ | _ | _ | _ | _) | _ <;> rcases src with (_ | _ | _ | _ | _ | _ | _) | _ <;> rfl

/-- Quadrant 1 (R100). -/
theorem runLoad_costs (cfg : Config) (op : Opcode) (dst src : Operand8) (s : State) :
    Costs (runLoad cfg op dst src s) s (costAt cfg op (loadInstr dst src) s) := by
  rw [costAt_loadInstr]
  cases dst with
  | reg r => cases src <;> exact costs_retire cfg op 1 (setReg_cycles ..)
  | atHL => cases src <;> exact costs_retire cfg op 1 rfl

theorem costAt_aluInstr (cfg : Config) (op : Opcode) (o : AluOp) (x : Operand8) (s : State) :
    costAt cfg op (aluInstr o x) s = cfg.cycles op true := by
  rcases x with (_ | _ | _ | _ | _ | _ | _) | _ <;> cases o <;> rfl

/-- Quadrant 2 (R101). -/
theorem runAlu_costs (cfg : Config) (op : Opcode) (o : AluOp) (x : Operand8) (s : State) :
    Costs (runAlu cfg op o x s) s (costAt cfg op (aluInstr o x) s) := by
  rw [costAt_aluInstr]
  cases x <;> exact costs_retire cfg op 1 rfl

/-- Quadrant 3 (R102, R103) but for the marker's entry. -/
theorem runQuadrant3_costs (cfg : Config) (op : Opcode) {y z : Code3} (n : Byte) (nn : Word) (s : State)
    (h : ¬ (y = .k1 ∧ z = .k3)) :
    Costs (runQuadrant3 cfg op y z n nn s) s (costAt cfg op (decodeQuadrant3 y z n nn) s) := by
  cases z with
  | k0 =>
    cases y with
    | k0 | k1 | k2 | k3 => exact retIf_cost cfg op _ s
    | k4 | k5 | k6 | k7 => exact costs_retire cfg op _ rfl
  | k1 =>
    cases y with
    | k3 => exact retFromInterrupt_costs cfg op s
    | _ => exact costs_transfer _ _ rfl
  | k2 =>
    cases y with
    | k0 | k1 | k2 | k3 => exact jumpIf_cost cfg op _ nn s
    | k4 | k5 | k6 | k7 => exact costs_retire cfg op _ rfl
  | k3 =>
    cases y with
    | k1 => exact absurd ⟨rfl, rfl⟩ h
    | k2 | k3 | k4 | k5 => exact invalidOpcode_costs cfg s
    | k0 | k6 | k7 => exact costs_transfer _ _ rfl
  | k4 =>
    cases y with
    | k0 | k1 | k2 | k3 => exact callIf_cost cfg op _ nn s
    | k4 | k5 | k6 | k7 => exact invalidOpcode_costs cfg s
  | k5 =>
    cases y with
    | k3 | k5 | k7 => exact invalidOpcode_costs cfg s
    | k0 | k1 | k2 | k4 | k6 => exact costs_transfer _ _ rfl
  | k6 => cases y <;> exact costs_retire cfg op 2 rfl
  | k7 => cases y <;> exact costs_transfer _ _ rfl

/-- The base page but for the marker (R99 to R103). -/
theorem runBase_costs (cfg : Config) {b : Byte} (n : Byte) (nn : Word) (s : State) (hb : b ≠ prefixByte) :
    Costs (runBase cfg b n nn s) s (costAt cfg (.base b) (decodeBase b n nn) s) := by
  have hm (hx : fieldX b = .k3) : ¬ (fieldY b = .k1 ∧ fieldZ b = .k3) :=
    fun ⟨hy, hz⟩ => hb (eq_prefixByte_of_fields b hx hy hz)
  unfold runBase decodeBase
  cases hx : fieldX b with
  | k0 => exact runQuadrant0_costs ..
  | k1 => exact runLoad_costs ..
  | k2 => exact runAlu_costs ..
  | k3 => exact runQuadrant3_costs _ _ _ _ _ (hm hx)

/-! ### The extended page -/

/-- No extended instruction is INVALID or conditional (R104). -/
theorem costAt_decodeExt (cfg : Config) (op : Opcode) (op2 : Byte) (s : State) :
    costAt cfg op (decodeExt op2) s = cfg.cycles op true := by
  unfold decodeExt
  generalize fieldX op2 = x, fieldY op2 = y, fieldZ op2 = z
  cases x <;> cases y <;> cases z <;> rfl

/-- The extended page (R104, R261). -/
theorem extendedOp_costs (cfg : Config) (op2 : Byte) (s : State) :
    Costs (extendedOp cfg op2 s) s (cfg.cycles (.ext op2) true) := by
  unfold extendedOp
  cases fieldX op2 <;> cases operand8Of (fieldZ op2)
  case k0.reg | k2.reg | k3.reg => exact costs_retire cfg _ 2 (setReg_cycles ..)
  all_goals exact costs_retire cfg _ 2 rfl

/-! ### The instruction -/

/-- Three bytes cost what the instruction they hold does (R92). -/
theorem runBytes_costs (cfg : Config) (b0 b1 b2 : Byte) (s : State) :
    Costs (runBytes cfg b0 b1 b2 s) s
      (costAt cfg (if b0 = prefixByte then .ext b1 else .base b0) (decode b0 b1 b2) s) := by
  unfold runBytes decode
  split
  · rw [costAt_decodeExt]
    exact extendedOp_costs cfg b1 s
  · next hb => exact runBase_costs cfg b1 _ s hb

/-- The one ill-formed term is the marker's entry (R105). -/
theorem eq_prefix_CB_of_not_wellFormed {i : Instr} (h : ¬ i.wellFormed = true) : ∃ op2, i = .prefix_CB op2 := by
  unfold Instr.wellFormed Instr.isPrefixEntry at h
  split at h
  · exact ⟨_, rfl⟩
  · exact absurd rfl h

/-- R213, R260 at any parameters: what an instruction adds to the cycle counter. It always answers a next state (R272). -/
theorem execWith_costs (cfg : Config) (i : Instr) (s : State) : Costs (execWith cfg i s) s (costAt cfg (opcodeOf i) i s) := by
  by_cases h : i.wellFormed = true
  · have hb := runBytes_costs cfg ((encode i).getD 0 0) ((encode i).getD 1 0) ((encode i).getD 2 0) s
    rwa [decode_encode_bytes h, ← opcodeOf_eq_bytes] at hb
  · obtain ⟨op2, rfl⟩ := eq_prefix_CB_of_not_wellFormed h
    exact extendedOp_costs cfg op2 s

/-! ### The step -/

/-- The end of a step is stages 5 to 7 of R270 for the cost that the instruction added. -/
theorem finishStep_of_cost (cfg : Config) {s t : State} {cost : Nat} (h : t.cycles = s.cycles + cost) :
    finishStep cfg s t = devicePhase cfg cost { t with cycles := wrapTo cfg.cycleCounterWidth t.cycles } := by
  rw [finishStep, h, Nat.add_sub_cancel_left]

/-- R271 at any parameters. -/
theorem stepWith_of_not_running (cfg : Config) {s : State} (h : s.run ≠ .running) : stepWith cfg s = .next s := by
  unfold stepWith stepThrough
  cases hr : s.run with
  | running => exact absurd hr h
  | halted | stopped => rfl

/-- At the defaults of R7 the step at any parameters is the step. -/
theorem stepWith_config (s : State) : stepWith config s = step s := by
  rw [stepWith, step, show execWith config = exec from funext₂ execWith_config]

/-- Settles O60: the cost is the instruction's (`execWith_costs`), and the rest of the step is stages 5 to 7 of R270 for that cost. -/
theorem stepAtAnyParameters : Obligations.StepAtAnyParameters := by
  unfold Obligations.StepAtAnyParameters
  refine ⟨stepWith_config, fun cfg s => ⟨stepWith_of_not_running cfg, fun hr => ?_⟩⟩
  obtain ⟨t, ht, hcost⟩ := execWith_costs cfg (fetch s) s
  refine ⟨t, ht, hcost, ?_⟩
  rw [stepWith_of_execWith cfg hr ht, finishStep_of_cost cfg hcost]
  rfl

end Sys2Proof.Machine
end

section
/-! SUPPORT. What an instruction can do to a state, said once for all that is proved of every instruction: it reads anything but the cycle
counter (R42), and it writes by the few operations that `ClosedUnderWrites` lists. A relation between states that those operations keep
is kept by `exec` (`exec_related`); a property of states is the case of a state related to itself (`exec_preserves`). -/
namespace Sys2Proof.Machine

open Sys2Proof.Claims

/-! ### What is read and what is written -/

/-- The state with its cycle counter at `n`. Every other field, and all that is read from them, is that of `s` by definition. -/
abbrev State.withCycles (s : State) (n : Nat) : State := { s with cycles := n }

/-- The relation `R` holds only between states that differ in the cycle counter at most, and every write that instruction `i` can make
keeps it: a register, F with its low nibble zero (R25), SP, a byte of memory by the engine's store (R63), PC with the cost, and,
where R262 names the instruction, the gate or the run state. -/
structure ClosedUnderWrites (i : Instr) (R : State → State → Prop) : Prop where
  view {s s' : State} : R s s' → ∃ n, s' = s.withCycles n
  setReg {s s' : State} (r : Reg8) (v : Byte) : R s s' → R (s.setReg r v) (s'.setReg r v)
  setFlags {s s' : State} {v : Byte} : v &&& 0x0F = 0 → R s s' → R { s with f := v } { s' with f := v }
  setSp {s s' : State} (v : Word) : R s s' → R { s with sp := v } { s' with sp := v }
  store {s s' : State} (x : Word) (v : Byte) : R s s' → R (memWrite config x v s) (memWrite config x v s')
  transfer {s s' : State} (cost : Nat) (x : Word) : R s s' → R (transfer cost x s) (transfer cost x s')
  setGate {s s' : State} (on : Bool) : writesGate i = true → R s s' → R { s with ime := on } { s' with ime := on }
  setRun {s s' : State} (r : RunState) : writesRun i = true → R s s' → R { s with run := r } { s' with run := r }

namespace ClosedUnderWrites

variable {i : Instr} {R : State → State → Prop} {s s' : State} (hR : ClosedUnderWrites i R)
include hR

theorem setPair (p : Pair) (v : Word) (h : R s s') : R (s.setPair p v) (s'.setPair p v) := by
  cases p with
  | bc => exact hR.setReg .c (lo8 v) (hR.setReg .b (hi8 v) h)
  | de => exact hR.setReg .e (lo8 v) (hR.setReg .d (hi8 v) h)
  | hl => exact hR.setReg .l (lo8 v) (hR.setReg .h (hi8 v) h)
  | sp => exact hR.setSp v h

/-- POP AF masks F (D10). -/
theorem setStackPair (p : StackPair) (v : Word) (h : R s s') : R (s.setStackPair p v) (s'.setStackPair p v) := by
  cases p with
  | bc => exact hR.setPair .bc v h
  | de => exact hR.setPair .de v h
  | hl => exact hR.setPair .hl v h
  | af =>
    have hmask : lo8 v &&& 0xF0 &&& 0x0F = 0 := by rw [BitVec.and_assoc]; exact BitVec.and_zero
    exact hR.setFlags hmask (hR.setReg .a _ h)

theorem retireWith (len cost : Nat) (h : R s s') : R (retireWith len cost s) (retireWith len cost s') := by
  obtain ⟨n, rfl⟩ := hR.view h
  exact hR.transfer cost (nextPc len s) h

theorem store16 (x v : Word) (h : R s s') : R (memWrite16 config x v s) (memWrite16 config x v s') :=
  hR.store (x + 1) _ (hR.store x _ h)

theorem push8 (v : Byte) (h : R s s') : R (push8 config v s) (push8 config v s') := by
  obtain ⟨n, rfl⟩ := hR.view h
  exact hR.store (s.sp - 1) v (hR.setSp (s.sp - 1) h)

theorem push16 (v : Word) (h : R s s') : R (push16 config v s) (push16 config v s') :=
  hR.push8 _ (hR.push8 _ h)

theorem dropTop (h : R s s') : R (dropTop s) (dropTop s') := by
  obtain ⟨n, rfl⟩ := hR.view h
  exact hR.setSp (s.sp + 2) h

/-- A result goes to A with its flags. -/
theorem setAccFlags (v : Byte) {w : Byte} (hw : w &&& 0x0F = 0) (h : R s s') :
    R { s with a := v, f := w } { s' with a := v, f := w } :=
  hR.setFlags hw (hR.setReg .a v h)

theorem aluA (o : AluOp) (v : Byte) (h : R s s') : R (aluA o v s) (aluA o v s') := by
  obtain ⟨n, rfl⟩ := hR.view h
  exact hR.setAccFlags _ (alu8_low o s.a v s.flagC) h

end ClosedUnderWrites

/-! ### Every instruction -/

/-- Both answers are next states, and the states are related. -/
def Related (R : State → State → Prop) (r r' : Result) : Prop := ∃ t t', r = .next t ∧ r' = .next t' ∧ R t t'

theorem related_next {R : State → State → Prop} {t t' : State} (h : R t t') : Related R (.next t) (.next t') :=
  ⟨t, t', rfl, rfl, h⟩

/-- A conditional form, whose condition reads the same on both sides. -/
theorem related_ite {R : State → State → Prop} {b b' : Bool} {t t' u u' : State} (hb : b' = b) (ht : R t t') (hu : R u u') :
    Related R (.next (if b then t else u)) (.next (if b' then t' else u')) := by
  subst hb
  cases b'
  · exact related_next hu
  · exact related_next ht

/-- The extended page (R104, R261). -/
theorem extendedOp_related {i : Instr} {R : State → State → Prop} (hR : ClosedUnderWrites i R) (op2 : Byte) {s s' : State}
    (h : R s s') : Related R (extendedOp config op2 s) (extendedOp config op2 s') := by
  obtain ⟨n, rfl⟩ := hR.view h
  unfold extendedOp
  cases fieldX op2 <;> cases operand8Of (fieldZ op2) <;> apply related_next <;> apply hR.retireWith
  case k0.reg r => exact hR.setReg r _ (hR.setFlags (rot8_low _ _ _) h)
  case k0.atHL => exact hR.store s.hl _ (hR.setFlags (rot8_low _ _ _) h)
  case k1.reg r => exact hR.setFlags (bitFlags_low _ _ _) h
  case k1.atHL => exact hR.setFlags (bitFlags_low _ _ _) h
  case k2.reg r | k3.reg r => exact hR.setReg r _ h
  case k2.atHL | k3.atHL => exact hR.store s.hl _ h

/-- Every instruction keeps a relation that its writes keep. -/
theorem exec_related {i : Instr} {R : State → State → Prop} (hR : ClosedUnderWrites i R) {s s' : State} (h : R s s') :
    Related R (exec i s) (exec i s') := by
  obtain ⟨n, rfl⟩ := hR.view h
  cases i using catalog_cases with
  | loadInstr x y =>
    cases x with
    | reg dst =>
      cases y with
      | reg r =>
        rw [exec_eq_loadInstr_reg_reg, exec_eq_loadInstr_reg_reg]
        exact related_next (hR.retireWith 1 4 (hR.setReg dst _ h))
      | atHL =>
        rw [exec_eq_loadInstr_reg_atHL, exec_eq_loadInstr_reg_atHL]
        exact related_next (hR.retireWith 1 8 (hR.setReg dst (s.rd s.hl) h))
    | atHL =>
      cases y with
      | reg r =>
        rw [exec_eq_loadInstr_atHL_reg, exec_eq_loadInstr_atHL_reg]
        exact related_next (hR.retireWith 1 8 (hR.store s.hl _ h))
      | atHL => exact related_next (hR.retireWith 1 4 (hR.setRun .halted rfl h))
  | aluInstr o x =>
    cases x with
    | reg r =>
      rw [exec_eq_aluInstr_reg, exec_eq_aluInstr_reg]
      exact related_next (hR.retireWith 1 4 (hR.aluA o _ h))
    | atHL =>
      rw [exec_eq_aluInstr_atHL, exec_eq_aluInstr_atHL]
      exact related_next (hR.retireWith 1 8 (hR.aluA o (s.rd s.hl) h))
  | aluImmInstr m o =>
    rw [exec_eq_aluImmInstr, exec_eq_aluImmInstr]
    exact related_next (hR.retireWith 2 8 (hR.aluA o m h))
  | incInstr x =>
    cases x with
    | reg r =>
      rw [exec_eq_incInstr_reg, exec_eq_incInstr_reg]
      exact related_next (hR.retireWith 1 4 (hR.setReg r _ (hR.setFlags (inc8_low _ _) h)))
    | atHL => exact related_next (hR.retireWith 1 12 (hR.store s.hl _ (hR.setFlags (inc8_low (s.rd s.hl) s.flagC) h)))
  | decInstr x =>
    cases x with
    | reg r =>
      rw [exec_eq_decInstr_reg, exec_eq_decInstr_reg]
      exact related_next (hR.retireWith 1 4 (hR.setReg r _ (hR.setFlags (dec8_low _ _) h)))
    | atHL => exact related_next (hR.retireWith 1 12 (hR.store s.hl _ (hR.setFlags (dec8_low (s.rd s.hl) s.flagC) h)))
  | loadImmInstr m x =>
    cases x with
    | reg r =>
      rw [exec_eq_loadImmInstr_reg, exec_eq_loadImmInstr_reg]
      exact related_next (hR.retireWith 2 8 (hR.setReg r m h))
    | atHL => exact related_next (hR.retireWith 2 12 (hR.store s.hl m h))
  | loadPairInstr nn p =>
    rw [exec_eq_loadPairInstr, exec_eq_loadPairInstr]
    exact related_next (hR.retireWith 3 12 (hR.setPair p nn h))
  | addHlInstr p =>
    rw [exec_eq_addHlInstr, exec_eq_addHlInstr]
    exact related_next (hR.retireWith 1 8 (hR.setPair .hl _ (hR.setFlags (addHlFlags_low _ _ _) h)))
  | incPairInstr p =>
    rw [exec_eq_incPairInstr, exec_eq_incPairInstr]
    exact related_next (hR.retireWith 1 8 (hR.setPair p _ h))
  | decPairInstr p =>
    rw [exec_eq_decPairInstr, exec_eq_decPairInstr]
    exact related_next (hR.retireWith 1 8 (hR.setPair p _ h))
  | pushInstr p =>
    rw [exec_eq_pushInstr, exec_eq_pushInstr]
    exact related_next (hR.retireWith 1 16 (hR.push16 _ h))
  | popInstr p =>
    rw [exec_eq_popInstr, exec_eq_popInstr]
    exact related_next (hR.retireWith 1 12 (hR.setStackPair p (stackTop s) (hR.dropTop h)))
  | jumpIfInstr nn cc =>
    rw [exec_eq_jumpIfInstr, exec_eq_jumpIfInstr]
    exact related_ite rfl (hR.transfer 16 nn h) (hR.retireWith 3 12 h)
  | callIfInstr nn cc =>
    rw [exec_eq_callIfInstr, exec_eq_callIfInstr]
    exact related_ite rfl (hR.transfer 24 nn (hR.push16 (nextPc 3 s) h)) (hR.retireWith 3 12 h)
  | retIfInstr cc =>
    rw [exec_eq_retIfInstr, exec_eq_retIfInstr]
    exact related_ite rfl (hR.transfer 20 (stackTop s) (hR.dropTop h)) (hR.retireWith 1 8 h)
  | jumpRelIfInstr e cc =>
    rw [exec_eq_jumpRelIfInstr, exec_eq_jumpRelIfInstr]
    exact related_ite rfl (hR.transfer 12 (relTarget e s) h) (hR.retireWith 2 8 h)
  | rstInstr k =>
    rw [exec_eq_rstInstr, exec_eq_rstInstr]
    exact related_next (hR.transfer 16 (config.rstTarget k) (hR.push16 (nextPc 1 s) h))
  | rotInstr o x =>
    cases x with
    | reg r =>
      rw [exec_eq_rotInstr_reg, exec_eq_rotInstr_reg]
      exact related_next (hR.retireWith 2 8 (hR.setReg r _ (hR.setFlags (rot8_low _ _ _) h)))
    | atHL =>
      rw [exec_eq_rotInstr_atHL, exec_eq_rotInstr_atHL]
      exact related_next (hR.retireWith 2 16 (hR.store s.hl _ (hR.setFlags (rot8_low o (s.rd s.hl) s.flagC) h)))
  | bitInstr k x =>
    cases x with
    | reg r =>
      rw [exec_eq_bitInstr_reg, exec_eq_bitInstr_reg]
      exact related_next (hR.retireWith 2 8 (hR.setFlags (bitFlags_low _ _ _) h))
    | atHL =>
      rw [exec_eq_bitInstr_atHL, exec_eq_bitInstr_atHL]
      exact related_next (hR.retireWith 2 12 (hR.setFlags (bitFlags_low k.index (s.rd s.hl) s.flagC) h))
  | resInstr k x =>
    cases x with
    | reg r =>
      rw [exec_eq_resInstr_reg, exec_eq_resInstr_reg]
      exact related_next (hR.retireWith 2 8 (hR.setReg r _ h))
    | atHL =>
      rw [exec_eq_resInstr_atHL, exec_eq_resInstr_atHL]
      exact related_next (hR.retireWith 2 16 (hR.store s.hl (clearBit8 (s.rd s.hl) k.index) h))
  | setInstr k x =>
    cases x with
    | reg r =>
      rw [exec_eq_setInstr_reg, exec_eq_setInstr_reg]
      exact related_next (hR.retireWith 2 8 (hR.setReg r _ h))
    | atHL =>
      rw [exec_eq_setInstr_atHL, exec_eq_setInstr_atHL]
      exact related_next (hR.retireWith 2 16 (hR.store s.hl (setBit8 (s.rd s.hl) k.index) h))
  | prefix_CB op2 => exact extendedOp_related hR op2 h
  | nop | invalid_D3 | invalid_DB | invalid_DD | invalid_E3 | invalid_E4 | invalid_EB | invalid_EC | invalid_ED | invalid_F4
  | invalid_FC | invalid_FD => exact related_next (hR.retireWith 1 4 h)
  | ld_atBC_A | ld_atDE_A | ld_atC_A => exact related_next (hR.retireWith 1 8 (hR.store _ s.a h))
  | ldh_atn_A m => exact related_next (hR.retireWith 2 12 (hR.store _ s.a h))
  | ld_atnn_A nn => exact related_next (hR.retireWith 3 16 (hR.store nn s.a h))
  | ld_atnn_SP nn => exact related_next (hR.retireWith 3 20 (hR.store16 nn s.sp h))
  | ld_atHLinc_A => exact related_next (hR.retireWith 1 8 (hR.setPair .hl (s.hl + 1) (hR.store s.hl s.a h)))
  | ld_atHLdec_A => exact related_next (hR.retireWith 1 8 (hR.setPair .hl (s.hl + (-1)) (hR.store s.hl s.a h)))
  | ld_A_atBC => exact related_next (hR.retireWith 1 8 (hR.setReg .a (s.rd (s.pair .bc)) h))
  | ld_A_atDE => exact related_next (hR.retireWith 1 8 (hR.setReg .a (s.rd (s.pair .de)) h))
  | ld_A_atC => exact related_next (hR.retireWith 1 8 (hR.setReg .a (s.rd (highPageAddr config s.c)) h))
  | ldh_A_atn m => exact related_next (hR.retireWith 2 12 (hR.setReg .a (s.rd (highPageAddr config m)) h))
  | ld_A_atnn nn => exact related_next (hR.retireWith 3 16 (hR.setReg .a (s.rd nn) h))
  | ld_A_atHLinc => exact related_next (hR.retireWith 1 8 (hR.setPair .hl (s.hl + 1) (hR.setReg .a (s.rd s.hl) h)))
  | ld_A_atHLdec => exact related_next (hR.retireWith 1 8 (hR.setPair .hl (s.hl + (-1)) (hR.setReg .a (s.rd s.hl) h)))
  | rlca => exact related_next (hR.retireWith 1 4 (hR.setAccFlags _ (rotA8_low .rlc s.a s.flagC) h))
  | rrca => exact related_next (hR.retireWith 1 4 (hR.setAccFlags _ (rotA8_low .rrc s.a s.flagC) h))
  | rla => exact related_next (hR.retireWith 1 4 (hR.setAccFlags _ (rotA8_low .rl s.a s.flagC) h))
  | rra => exact related_next (hR.retireWith 1 4 (hR.setAccFlags _ (rotA8_low .rr s.a s.flagC) h))
  | daa => exact related_next (hR.retireWith 1 4 (hR.setAccFlags _ (daa8_low s.a s.flagN s.flagH s.flagC) h))
  | cpl => exact related_next (hR.retireWith 1 4 (hR.setAccFlags _ (packF_low s.flagZ true true s.flagC) h))
  | scf => exact related_next (hR.retireWith 1 4 (hR.setAccFlags _ (packF_low s.flagZ false false true) h))
  | ccf => exact related_next (hR.retireWith 1 4 (hR.setAccFlags _ (packF_low s.flagZ false false (!s.flagC)) h))
  | add_SP_e e => exact related_next (hR.retireWith 2 16 (hR.setFlags (addSpFlags_low s.sp e) (hR.setSp (s.sp + sext16 e) h)))
  | ld_HL_SPe e =>
    exact related_next (hR.retireWith 2 12 (hR.setPair .hl (s.sp + sext16 e) (hR.setFlags (addSpFlags_low s.sp e) h)))
  | ld_SP_HL => exact related_next (hR.retireWith 1 8 (hR.setSp s.hl h))
  | jr_e e => exact related_next (hR.transfer 12 (relTarget e s) h)
  | jp_nn nn => exact related_next (hR.transfer 16 nn h)
  | jp_HL => exact related_next (hR.transfer 4 s.hl h)
  | call_nn nn => exact related_next (hR.transfer 24 nn (hR.push16 (nextPc 3 s) h))
  | ret => exact related_next (hR.transfer 16 (stackTop s) (hR.dropTop h))
  | reti => exact related_next (hR.setGate true rfl (hR.transfer 16 (stackTop s) (hR.dropTop h)))
  | di => exact related_next (hR.retireWith 1 4 (hR.setGate false rfl h))
  | ei => exact related_next (hR.retireWith 1 4 (hR.setGate true rfl h))
  | stop pad => exact related_next (hR.retireWith 2 4 (hR.setRun .stopped rfl h))

/-- The states that have the property `P`, each related to itself. -/
def Diagonal (P : State → Prop) (s s' : State) : Prop := s' = s ∧ P s

/-- Every instruction keeps a property of states that its writes keep. -/
theorem exec_preserves {i : Instr} {P : State → Prop} (hP : ClosedUnderWrites i (Diagonal P)) {s t : State} (h : P s)
    (he : exec i s = .next t) : P t := by
  obtain ⟨u, u', hu, -, -, hPu⟩ := exec_related hP ⟨rfl, h⟩
  cases hu.symm.trans he
  exact hPu

end Sys2Proof.Machine
end

section
/-! SUPPORT. What every step keeps (10_state.md rules R25, R31, R32, R42 to R47): the invariant, the independence of the cycle counter,
and who writes the gate and the run state. Each is one relation for `exec_related` or one property for `exec_preserves`, with its
counterpart for the devices. -/
namespace Sys2Proof.Machine

open Sys2Proof.Claims

/-! ### Reset (R47) -/

/-- Settles O13: `hostReset` ignores its argument, and each field of `State.reset` is the value of the table. -/
theorem resetGivesTheTableOfR47 : Obligations.ResetGivesTheTableOfR47 := by
  unfold Obligations.ResetGivesTheTableOfR47
  exact fun _ => ⟨rfl, fun r => by cases r <;> rfl, rfl, rfl, rfl, rfl, rfl, rfl, fun _ => rfl, rfl, rfl, rfl⟩

/-- Settles O14: the empty memory is canonical, and F and the accumulators are 0. -/
theorem invariantAtReset : Obligations.InvariantAtReset where
  memoryCanonical := rfl
  flagsClean := rfl
  accumulatorsBounded := ⟨by decide, by decide⟩

/-! ### The invariant -/

theorem State.Inv.setReg {s : State} (h : s.Inv) (r : Reg8) (v : Byte) : (s.setReg r v).Inv := by
  cases r <;> exact ⟨h.memoryCanonical, h.flagsClean, h.accumulatorsBounded⟩

/-- No write of an instruction breaks the invariant. -/
theorem inv_closedUnderWrites (i : Instr) : ClosedUnderWrites i (Diagonal State.Inv) where
  view := fun ⟨hs, _⟩ => ⟨_, hs⟩
  setReg r v := by rintro ⟨rfl, h⟩; exact ⟨rfl, h.setReg r v⟩
  setFlags hv := by rintro ⟨rfl, h⟩; exact ⟨rfl, h.memoryCanonical, hv, h.accumulatorsBounded⟩
  setSp _ := by rintro ⟨rfl, h⟩; exact ⟨rfl, h.memoryCanonical, h.flagsClean, h.accumulatorsBounded⟩
  store x v := by
    rintro ⟨rfl, h⟩; exact ⟨rfl, memWrite_wf config x v h.memoryCanonical, h.flagsClean, h.accumulatorsBounded⟩
  transfer _ _ := by rintro ⟨rfl, h⟩; exact ⟨rfl, h.memoryCanonical, h.flagsClean, h.accumulatorsBounded⟩
  setGate _ _ := by rintro ⟨rfl, h⟩; exact ⟨rfl, h.memoryCanonical, h.flagsClean, h.accumulatorsBounded⟩
  setRun _ _ := by rintro ⟨rfl, h⟩; exact ⟨rfl, h.memoryCanonical, h.flagsClean, h.accumulatorsBounded⟩

theorem timerCpt_pos (k : Code2) : 0 < config.timerCpt k := by cases k <;> decide

theorem timerCpt_le (k : Code2) : config.timerCpt k ≤ 1024 := by cases k <;> decide

theorem lcdDur_le (m : DisplayMode) : config.lcdDur m ≤ 4560 := by cases m <;> decide

/-- R44: what the tick accounting leaves in `tima_acc` is a remainder by the threshold. -/
theorem timerIncrease_timaAcc_lt (cost : Nat) {s : State} (h : s.timaAcc < 1024) : (timerIncrease config cost s).timaAcc < 1024 := by
  cases htac : ((timerDivider config cost s).rd config.addrTac).getLsbD config.tacEnableBit with
  | false => rw [timerIncrease_off _ _ _ htac, timerDivider_frame]; exact h
  | true =>
    rw [timerIncrease_on _ _ _ htac, timerCount_config, timerTicks_frame]
    exact (Nat.mod_lt _ (timerCpt_pos _)).trans_le (timerCpt_le _)

/-- R45, D23: within a mode `lcd_acc` is below its duration, and at its end it is 0. -/
theorem displayUpdate_lcdAcc_lt (cost : Nat) (s : State) : (displayUpdate config cost s).lcdAcc < 4560 := by
  rcases Nat.lt_or_ge (s.lcdAcc + cost) (config.lcdDur (displayModeOf (s.rd config.addrStat))) with h | h
  · rw [displayUpdate_within_config cost s h]; exact h.trans_le (lcdDur_le _)
  · rw [displayUpdate_ends_config cost s h, displayTransition_frame]; exact Nat.zero_lt_succ _

theorem devicePhase_timaAcc (cfg : Config) (cost : Nat) (s : State) :
    (devicePhase cfg cost s).timaAcc = (timerIncrease cfg cost s).timaAcc := by
  rw [devicePhase, interruptEvaluate_frame, displayUpdate_frame]

theorem devicePhase_lcdAcc (cfg : Config) (cost : Nat) (s : State) :
    (devicePhase cfg cost s).lcdAcc = (displayUpdate cfg cost (timerIncrease cfg cost s)).lcdAcc := by
  rw [devicePhase, interruptEvaluate_frame]

theorem devicePhase_inv (cost : Nat) {s : State} (h : s.Inv) : (devicePhase config cost s).Inv where
  memoryCanonical := devicePhase_wf config cost h.memoryCanonical
  flagsClean := by rw [devicePhase_frame]; exact h.flagsClean
  accumulatorsBounded := by
    refine ⟨?_, ?_⟩
    · rw [devicePhase_timaAcc]; exact timerIncrease_timaAcc_lt cost h.accumulatorsBounded.1
    · rw [devicePhase_lcdAcc]; exact displayUpdate_lcdAcc_lt cost _

/-- Settles O15: the instruction's writes keep the invariant, and so do the devices. -/
theorem invariantKeptByEveryStep : Obligations.InvariantKeptByEveryStep := by
  unfold Obligations.InvariantKeptByEveryStep
  intro s u h hstep
  rcases step_cases hstep with ⟨-, rfl⟩ | ⟨t, -, he, rfl⟩
  · exact h
  · exact devicePhase_inv _ (exec_preserves (inv_closedUnderWrites _) h he)

/-! ### The cycle counter (R42) -/

/-- The second state is the first one with `k` more on its cycle counter. -/
def Later (k : Nat) (s s' : State) : Prop := s' = s.withCycles (s.cycles + k)

theorem later_closedUnderWrites (i : Instr) (k : Nat) : ClosedUnderWrites i (Later k) where
  view hs := ⟨_, hs⟩
  setReg r v := by rintro rfl; cases r <;> rfl
  setFlags _ := by rintro rfl; rfl
  setSp _ := by rintro rfl; rfl
  store _ _ := by rintro rfl; rfl
  transfer cost x := by
    rintro rfl
    show (transfer cost x _).withCycles (_ + k + cost) = _
    rw [Nat.add_right_comm]; rfl
  setGate _ _ := by rintro rfl; rfl
  setRun _ _ := by rintro rfl; rfl

theorem timerDivider_withCycles (cfg : Config) (cost : Nat) (s : State) (n : Nat) :
    timerDivider cfg cost (s.withCycles n) = (timerDivider cfg cost s).withCycles n := by
  unfold timerDivider
  dsimp only
  split <;> rfl

theorem timerTick_withCycles (cfg : Config) (s : State) (n : Nat) :
    timerTick cfg (s.withCycles n) = (timerTick cfg s).withCycles n := by
  by_cases h : s.rd cfg.addrTima + 1 < s.rd cfg.addrTima
  · rw [timerTick_wrap cfg s h, timerTick_wrap cfg (s.withCycles n) h]; rfl
  · rw [timerTick_plain cfg s h, timerTick_plain cfg (s.withCycles n) h]; rfl

theorem timerTicks_withCycles (cfg : Config) (m : Nat) (s : State) (n : Nat) :
    timerTicks cfg m (s.withCycles n) = (timerTicks cfg m s).withCycles n := by
  induction m generalizing s with
  | zero => rfl
  | succ m ih => rw [timerTicks, timerTick_withCycles, ih, timerTicks]

theorem timerCount_withCycles (cfg : Config) (th cost : Nat) (s : State) (n : Nat) :
    timerCount cfg th cost (s.withCycles n) = (timerCount cfg th cost s).withCycles n :=
  timerTicks_withCycles cfg _ { s with timaAcc := wrapTo cfg.accWidth (s.timaAcc + cost) % th } n

theorem timerIncrease_withCycles (cfg : Config) (cost : Nat) (s : State) (n : Nat) :
    timerIncrease cfg cost (s.withCycles n) = (timerIncrease cfg cost s).withCycles n := by
  have hd := timerDivider_withCycles cfg cost s n
  cases htac : ((timerDivider cfg cost s).rd cfg.addrTac).getLsbD cfg.tacEnableBit with
  | false =>
    rw [timerIncrease_off cfg cost s htac, timerIncrease_off cfg cost (s.withCycles n) (by rw [hd]; exact htac), hd]
  | true =>
    rw [timerIncrease_on cfg cost s htac, timerIncrease_on cfg cost (s.withCycles n) (by rw [hd]; exact htac), hd]
    exact timerCount_withCycles cfg _ cost _ n

theorem displayTransition_withCycles (cfg : Config) (m : DisplayMode) (s : State) (n : Nat) :
    displayTransition cfg m (s.withCycles n) = (displayTransition cfg m s).withCycles n := by
  cases m <;> rfl

theorem displayUpdate_withCycles (cfg : Config) (cost : Nat) (s : State) (n : Nat) :
    displayUpdate cfg cost (s.withCycles n) = (displayUpdate cfg cost s).withCycles n := by
  rcases Nat.lt_or_ge (wrapTo cfg.accWidth (s.lcdAcc + cost)) (cfg.lcdDur (displayModeOf (s.rd cfg.addrStat))) with h | h
  · rw [displayUpdate_within cfg cost s h, displayUpdate_within cfg cost (s.withCycles n) h]
  · rw [displayUpdate_ends cfg cost s h, displayUpdate_ends cfg cost (s.withCycles n) h]
    exact displayTransition_withCycles cfg _ { s with lcdAcc := wrapTo cfg.accWidth (s.lcdAcc + cost) } n

theorem enterInterrupt_withCycles (cfg : Config) (src : Source) (s : State) (n : Nat) :
    enterInterrupt cfg src (s.withCycles n) = (enterInterrupt cfg src s).withCycles n := by
  unfold enterInterrupt
  cases cfg.irqPushPc <;> rfl

theorem interruptEvaluate_withCycles (cfg : Config) (s : State) (n : Nat) :
    interruptEvaluate cfg (s.withCycles n) = (interruptEvaluate cfg s).withCycles n := by
  have hsel : selectSource cfg (s.withCycles n) = selectSource cfg s := rfl
  unfold interruptEvaluate
  rw [hsel]
  cases s.ime with
  | false => rfl
  | true =>
    cases selectSource cfg s with
    | none => rfl
    | some src => exact enterInterrupt_withCycles cfg src s n

/-- The devices do not look at the cycle counter. -/
theorem devicePhase_withCycles (cfg : Config) (cost : Nat) (s : State) (n : Nat) :
    devicePhase cfg cost (s.withCycles n) = (devicePhase cfg cost s).withCycles n := by
  rw [devicePhase, timerIncrease_withCycles, displayUpdate_withCycles, interruptEvaluate_withCycles, devicePhase]

theorem devicePhase_cycles (cfg : Config) (cost : Nat) (s : State) : (devicePhase cfg cost s).cycles = s.cycles := by
  rw [devicePhase_frame]

/-- R271. -/
theorem step_of_not_running {s : State} (h : s.run ≠ .running) : step s = .next s := by
  rw [← stepWith_config, stepWith_of_not_running config h]

/-- Settles O16: the same instruction is fetched and its writes keep the difference, so the cost handed to the devices is the same. -/
theorem cycleCounterOnlyObserved : Obligations.CycleCounterOnlyObserved := by
  unfold Obligations.CycleCounterOnlyObserved
  intro s u k hstep
  rcases step_cases hstep with ⟨hrun, rfl⟩ | ⟨t, hrun, he, rfl⟩
  · exact step_of_not_running hrun
  · obtain ⟨t₁, t', he₁, he', hlater⟩ :=
      exec_related (later_closedUnderWrites (fetch s) k) (s := s) (s' := s.withCycles (s.cycles + k)) rfl
    cases he₁.symm.trans he
    cases hlater
    have hcost : t.cycles + k - (s.cycles + k) = t.cycles - s.cycles := Nat.add_sub_add_right ..
    have hstep' := step_of_exec (s := s.withCycles (s.cycles + k)) hrun he'
    rw [hcost, devicePhase_withCycles] at hstep'
    rw [hstep', devicePhase_cycles]

/-! ### The gate and the run state (R31, R32, R262) -/

/-- What instruction `i` leaves of the gate, the run state and the accumulators. -/
def ControlKept (i : Instr) (s t : State) : Prop :=
  (writesGate i = false → t.ime = s.ime) ∧ (writesRun i = false → t.run = s.run)
    ∧ t.divAcc = s.divAcc ∧ t.timaAcc = s.timaAcc ∧ t.lcdAcc = s.lcdAcc

theorem controlKept_closedUnderWrites (i : Instr) (s : State) : ClosedUnderWrites i (Diagonal (ControlKept i s)) where
  view := fun ⟨hs, _⟩ => ⟨_, hs⟩
  setReg r v := by rintro ⟨rfl, h⟩; cases r <;> exact ⟨rfl, h⟩
  setFlags _ := by rintro ⟨rfl, h⟩; exact ⟨rfl, h⟩
  setSp _ := by rintro ⟨rfl, h⟩; exact ⟨rfl, h⟩
  store _ _ := by rintro ⟨rfl, h⟩; exact ⟨rfl, h⟩
  transfer _ _ := by rintro ⟨rfl, h⟩; exact ⟨rfl, h⟩
  setGate _ hi := by
    rintro ⟨rfl, -, hrun, hacc⟩; exact ⟨rfl, fun hn => absurd (hi.symm.trans hn) (by decide), hrun, hacc⟩
  setRun _ hi := by
    rintro ⟨rfl, hime, -, hacc⟩; exact ⟨rfl, hime, fun hn => absurd (hi.symm.trans hn) (by decide), hacc⟩

theorem exec_controlKept {i : Instr} {s t : State} (he : exec i s = .next t) : ControlKept i s t :=
  exec_preserves (controlKept_closedUnderWrites i s) ⟨fun _ => rfl, fun _ => rfl, rfl, rfl, rfl⟩ he

theorem eq_of_writesGate {i : Instr} (h : writesGate i = true) : i = .di ∨ i = .ei ∨ i = .reti := by
  unfold writesGate at h
  split at h
  · exact .inl rfl
  · exact .inr (.inl rfl)
  · exact .inr (.inr rfl)
  · cases h

/-- The devices never turn the gate on. -/
theorem ime_of_devicePhase_ime {cfg : Config} {cost : Nat} {s : State} (h : (devicePhase cfg cost s).ime = true) : s.ime = true := by
  have hd : (displayUpdate cfg cost (timerIncrease cfg cost s)).ime = s.ime := by rw [displayUpdate_frame, timerIncrease_frame]
  cases hs : s.ime with
  | true => rfl
  | false =>
    rw [hs] at hd
    rw [devicePhase, interruptEvaluate_ime cfg _ hd, hd] at h
    cases h

theorem devicePhase_run (cfg : Config) (cost : Nat) (s : State) : (devicePhase cfg cost s).run = s.run := by
  rw [devicePhase_frame]

/-- An instruction that turns the gate on is EI or RETI. -/
theorem eq_ei_or_reti_of_exec {i : Instr} {s t : State} (he : exec i s = .next t) (hs : s.ime = false) (ht : t.ime = true) :
    i = .ei ∨ i = .reti := by
  obtain ⟨hgate, -⟩ := exec_controlKept he
  cases hw : writesGate i with
  | false => rw [hgate hw, hs] at ht; cases ht
  | true =>
    rcases eq_of_writesGate hw with rfl | hi
    · rw [exec_eq_di] at he; cases he; cases ht
    · exact hi

/-- An instruction that ends Running writes the run state. -/
theorem writesRun_of_exec {i : Instr} {s t : State} (he : exec i s = .next t) (hne : t.run ≠ s.run) : writesRun i = true := by
  obtain ⟨-, hrun, -⟩ := exec_controlKept he
  cases hw : writesRun i with
  | false => exact absurd (hrun hw) hne
  | true => rfl

/-- Settles O17: the clause about `exec` is `exec_controlKept`; the devices of a whole step only turn the gate off and leave the run
state. -/
theorem onlyNamedInstructionsWriteControl : Obligations.OnlyNamedInstructionsWriteControl := by
  unfold Obligations.OnlyNamedInstructionsWriteControl
  refine ⟨fun i s t => exec_controlKept, fun s u hstep => ?_⟩
  rcases step_cases hstep with ⟨hrun, rfl⟩ | ⟨t, hrun, he, rfl⟩
  · exact ⟨fun h0 h1 => absurd (h0.symm.trans h1) (by decide), fun hr => absurd hr hrun⟩
  · refine ⟨fun h0 h1 => eq_ei_or_reti_of_exec he h0 (ime_of_devicePhase_ime h1), fun _ hne => writesRun_of_exec he ?_⟩
    rwa [devicePhase_run, ← hrun] at hne

end Sys2Proof.Machine
end

section
/-! SUPPORT. The flags of every instruction against the table of 10_state.md rule R27: an instruction either keeps F and has the row that
names no flag, or leaves F as a `packF` whose four bits obey its row. POP AF alone loads F from memory. -/
namespace Sys2Proof.Machine

open Sys2Proof.Claims

/-! ### A row of R27 -/

/-- From `s` to `t` every flag obeys its rule in the row, and F is unchanged whole where the row names no flag. -/
def FlagRow.Describes (row : FlagRow) (s t : State) : Prop :=
  row.z.Obeyed s.flagZ t.flagZ ∧ row.n.Obeyed s.flagN t.flagN ∧ row.h.Obeyed s.flagH t.flagH ∧ row.c.Obeyed s.flagC t.flagC
    ∧ (row = noFlags → t.f = s.f)

/-- An instruction that leaves F. -/
theorem describes_of_kept {row : FlagRow} {s t : State} (hrow : row = noFlags) (hf : t.f = s.f) : FlagRow.Describes row s t := by
  subst hrow
  have hbit (i : Nat) : t.f.getLsbD i = s.f.getLsbD i := by rw [hf]
  exact ⟨hbit 7, hbit 6, hbit 5, hbit 4, fun _ => hf⟩

/-- An instruction that writes F. -/
theorem describes_of_packF {row : FlagRow} {s t : State} {z n h c : Bool} (hrow : row ≠ noFlags) (hf : t.f = packF z n h c)
    (hz : row.z.Obeyed s.flagZ z) (hn : row.n.Obeyed s.flagN n) (hh : row.h.Obeyed s.flagH h) (hc : row.c.Obeyed s.flagC c) :
    FlagRow.Describes row s t := by
  obtain ⟨tz, tn, th, tc, -⟩ := flags_of_packF hf
  exact ⟨tz ▸ hz, tn ▸ hn, th ▸ hh, tc ▸ hc, fun h => absurd h hrow⟩

/-! ### The rows of the operations on bytes -/

/-- The row of an operation on A (R121 to R144). -/
def aluFlagRow : AluOp → FlagRow
  | .add | .adc => ⟨.computed, .forced false, .computed, .computed⟩
  | .sub | .sbc | .cp => ⟨.computed, .forced true, .computed, .computed⟩
  | .and => ⟨.computed, .forced false, .forced true, .forced false⟩
  | .xor | .or => ⟨.computed, .forced false, .forced false, .forced false⟩

theorem flagRow_aluInstr (o : AluOp) (x : Operand8) : flagRow (opcodeOf (aluInstr o x)) = aluFlagRow o := by
  rcases x with (_ | _ | _ | _ | _ | _ | _) | _ <;> cases o <;> rfl

theorem flagRow_aluImmInstr (n : Byte) (o : AluOp) : flagRow (opcodeOf (aluImmInstr n o)) = aluFlagRow o := by
  cases o <;> rfl

theorem aluFlagRow_describes {o : AluOp} {a v : Byte} {carry : Bool} {s t : State} (hf : t.f = (alu8 o a v carry).flags) :
    FlagRow.Describes (aluFlagRow o) s t := by
  cases o with
  | add | adc | sub | sbc | cp => exact describes_of_packF (by decide) hf trivial rfl trivial trivial
  | and | xor | or => exact describes_of_packF (by decide) hf trivial rfl rfl rfl

/-- The row of a rotate, shift or SWAP of the extended page (R197). -/
def rotFlagRow : RotOp → FlagRow
  | .swap => ⟨.computed, .forced false, .forced false, .forced false⟩
  | .rlc | .rrc | .rl | .rr | .sla | .sra | .srl => ⟨.computed, .forced false, .forced false, .computed⟩

theorem flagRow_rotInstr (o : RotOp) (x : Operand8) : flagRow (opcodeOf (rotInstr o x)) = rotFlagRow o := by
  rcases x with (_ | _ | _ | _ | _ | _ | _) | _ <;> cases o <;> rfl

theorem rotFlagRow_describes {o : RotOp} {v : Byte} {carry : Bool} {s t : State} (hf : t.f = (rot8 o v carry).flags) :
    FlagRow.Describes (rotFlagRow o) s t := by
  cases o with
  | swap => exact describes_of_packF (by decide) hf trivial rfl rfl rfl
  | rlc | rrc | rl | rr | sla | sra | srl => exact describes_of_packF (by decide) hf trivial rfl rfl trivial

/-- The row of INC of a byte (R145, R146). -/
theorem flagRow_incInstr (x : Operand8) :
    flagRow (opcodeOf (incInstr x)) = ⟨.computed, .forced false, .computed, .kept⟩ := by
  rcases x with (_ | _ | _ | _ | _ | _ | _) | _ <;> rfl

theorem incInstr_describes {x : Operand8} {v : Byte} {s t : State} (hf : t.f = (inc8 v s.flagC).flags) :
    FlagRow.Describes (flagRow (opcodeOf (incInstr x))) s t := by
  rw [flagRow_incInstr]
  exact describes_of_packF (by decide) hf trivial rfl trivial rfl

/-- The row of DEC of a byte (R147, R148). -/
theorem flagRow_decInstr (x : Operand8) :
    flagRow (opcodeOf (decInstr x)) = ⟨.computed, .forced true, .computed, .kept⟩ := by
  rcases x with (_ | _ | _ | _ | _ | _ | _) | _ <;> rfl

theorem decInstr_describes {x : Operand8} {v : Byte} {s t : State} (hf : t.f = (dec8 v s.flagC).flags) :
    FlagRow.Describes (flagRow (opcodeOf (decInstr x))) s t := by
  rw [flagRow_decInstr]
  exact describes_of_packF (by decide) hf trivial rfl trivial rfl

/-- The row of BIT (R191, R192). -/
theorem flagRow_bitInstr (k : Code3) (x : Operand8) :
    flagRow (opcodeOf (bitInstr k x)) = ⟨.computed, .forced false, .forced true, .kept⟩ := by
  rcases x with (_ | _ | _ | _ | _ | _ | _) | _ <;> cases k <;> rfl

theorem bitInstr_describes {k : Code3} {x : Operand8} {v : Byte} {s t : State} (hf : t.f = bitFlags k.index v s.flagC) :
    FlagRow.Describes (flagRow (opcodeOf (bitInstr k x))) s t := by
  rw [flagRow_bitInstr]
  exact describes_of_packF (by decide) hf trivial rfl rfl rfl

/-- The row of ADD HL,rr (R160). -/
theorem flagRow_addHlInstr (p : Pair) :
    flagRow (opcodeOf (addHlInstr p)) = ⟨.kept, .forced false, .computed, .computed⟩ := by
  cases p <;> rfl

theorem addHlInstr_describes {p : Pair} {a b : Word} {s t : State} (hf : t.f = addHlFlags a b s.flagZ) :
    FlagRow.Describes (flagRow (opcodeOf (addHlInstr p))) s t := by
  rw [flagRow_addHlInstr]
  exact describes_of_packF (by decide) hf rfl rfl trivial trivial

/-- The row that ADD SP,e and LD HL,SP+e share (R161, R226). -/
theorem addSpFlags_describes {s t : State} {sp : Word} {e : Byte} (hf : t.f = addSpFlags sp e) :
    FlagRow.Describes ⟨.forced false, .forced false, .computed, .computed⟩ s t :=
  describes_of_packF (by decide) hf rfl rfl trivial trivial

/-- DAA keeps N and clears H (R149). -/
theorem daa8_flags (a : Byte) (n h c : Bool) : ∃ z c', (daa8 a n h c).flags = packF z n false c' := by
  cases n <;> exact ⟨_, _, rfl⟩

theorem daa_describes {s t : State} (hf : t.f = (daa8 s.a s.flagN s.flagH s.flagC).flags) :
    FlagRow.Describes (flagRow (opcodeOf .daa)) s t := by
  obtain ⟨z, c, hp⟩ := daa8_flags s.a s.flagN s.flagH s.flagC
  exact describes_of_packF (by decide) (hf.trans hp) trivial rfl rfl trivial

/-! ### The rows that name no flag -/

theorem flagRow_loadInstr (x y : Operand8) : flagRow (opcodeOf (loadInstr x y)) = noFlags := by
  rcases x with (_ | _ | _ | _ | _ | _ | _) | _ <;> rcases y with (_ | _ | _ | _ | _ | _ | _) | _ <;> rfl

theorem flagRow_loadImmInstr (n : Byte) (x : Operand8) : flagRow (opcodeOf (loadImmInstr n x)) = noFlags := by
  rcases x with (_ | _ | _ | _ | _ | _ | _) | _ <;> rfl

theorem flagRow_resInstr (k : Code3) (x : Operand8) : flagRow (opcodeOf (resInstr k x)) = noFlags := by
  rcases x with (_ | _ | _ | _ | _ | _ | _) | _ <;> cases k <;> rfl

theorem flagRow_setInstr (k : Code3) (x : Operand8) : flagRow (opcodeOf (setInstr k x)) = noFlags := by
  rcases x with (_ | _ | _ | _ | _ | _ | _) | _ <;> cases k <;> rfl

/-- F of a conditional form whose two sides both leave it. -/
theorem ite_f {b : Bool} {s t u : State} (ht : t.f = s.f) (hu : u.f = s.f) : (if b then t else u).f = s.f := by
  cases b
  · exact hu
  · exact ht

/-! ### Every instruction -/

/-- Every instruction the decoder can yield obeys its row. The cases are the shapes, then the instructions that stand alone and write F,
then those whose effect on memory hides that F is kept; the last case is every other one, where that shows by unfolding. -/
theorem flagRow_describes_exec {i : Instr} (hw : i.wellFormed = true) (s : State) :
    ∃ t, exec i s = .next t ∧ FlagRow.Describes (flagRow (opcodeOf i)) s t := by
  cases i using catalog_cases with
  | loadInstr x y =>
    have hrow := flagRow_loadInstr x y
    cases x with
    | reg dst =>
      cases y with
      | reg r => exact ⟨_, exec_eq_loadInstr_reg_reg dst r s, describes_of_kept hrow (setReg_f ..)⟩
      | atHL => exact ⟨_, exec_eq_loadInstr_reg_atHL dst s, describes_of_kept hrow (setReg_f ..)⟩
    | atHL =>
      cases y with
      | reg r => exact ⟨_, exec_eq_loadInstr_atHL_reg r s, describes_of_kept hrow rfl⟩
      | atHL => exact ⟨_, exec_eq_loadInstr_atHL_atHL s, describes_of_kept hrow rfl⟩
  | aluInstr o x =>
    rw [flagRow_aluInstr]
    cases x with
    | reg r => exact ⟨_, exec_eq_aluInstr_reg o r s, aluFlagRow_describes rfl⟩
    | atHL => exact ⟨_, exec_eq_aluInstr_atHL o s, aluFlagRow_describes rfl⟩
  | aluImmInstr n o => exact ⟨_, exec_eq_aluImmInstr n o s, flagRow_aluImmInstr n o ▸ aluFlagRow_describes rfl⟩
  | incInstr x =>
    cases x with
    | reg r => exact ⟨_, exec_eq_incInstr_reg r s, incInstr_describes (setReg_f ..)⟩
    | atHL => exact ⟨_, exec_eq_incInstr_atHL s, incInstr_describes rfl⟩
  | decInstr x =>
    cases x with
    | reg r => exact ⟨_, exec_eq_decInstr_reg r s, decInstr_describes (setReg_f ..)⟩
    | atHL => exact ⟨_, exec_eq_decInstr_atHL s, decInstr_describes rfl⟩
  | loadImmInstr n x =>
    have hrow := flagRow_loadImmInstr n x
    cases x with
    | reg r => exact ⟨_, exec_eq_loadImmInstr_reg n r s, describes_of_kept hrow (setReg_f ..)⟩
    | atHL => exact ⟨_, exec_eq_loadImmInstr_atHL n s, describes_of_kept hrow rfl⟩
  | loadPairInstr nn p => exact ⟨_, exec_eq_loadPairInstr nn p s, describes_of_kept (by cases p <;> rfl) (setPair_f ..)⟩
  | addHlInstr p => exact ⟨_, exec_eq_addHlInstr p s, addHlInstr_describes (setPair_f ..)⟩
  | incPairInstr p => exact ⟨_, exec_eq_incPairInstr p s, describes_of_kept (by cases p <;> rfl) (setPair_f ..)⟩
  | decPairInstr p => exact ⟨_, exec_eq_decPairInstr p s, describes_of_kept (by cases p <;> rfl) (setPair_f ..)⟩
  | pushInstr p => exact ⟨_, exec_eq_pushInstr p s, describes_of_kept (by cases p <;> rfl) rfl⟩
  | popInstr p =>
    cases p with
    | bc | de | hl => exact ⟨_, rfl, describes_of_kept rfl rfl⟩
    | af => exact ⟨_, rfl, trivial, trivial, trivial, trivial, fun h => absurd h (by decide)⟩
  | jumpIfInstr nn cc => exact ⟨_, exec_eq_jumpIfInstr nn cc s, describes_of_kept (by cases cc <;> rfl) (ite_f rfl rfl)⟩
  | callIfInstr nn cc => exact ⟨_, exec_eq_callIfInstr nn cc s, describes_of_kept (by cases cc <;> rfl) (ite_f rfl rfl)⟩
  | retIfInstr cc => exact ⟨_, exec_eq_retIfInstr cc s, describes_of_kept (by cases cc <;> rfl) (ite_f rfl rfl)⟩
  | jumpRelIfInstr e cc => exact ⟨_, exec_eq_jumpRelIfInstr e cc s, describes_of_kept (by cases cc <;> rfl) (ite_f rfl rfl)⟩
  | rstInstr k => exact ⟨_, exec_eq_rstInstr k s, describes_of_kept (by cases k <;> rfl) rfl⟩
  | rotInstr o x =>
    rw [flagRow_rotInstr]
    cases x with
    | reg r => exact ⟨_, exec_eq_rotInstr_reg o r s, rotFlagRow_describes (setReg_f ..)⟩
    | atHL => exact ⟨_, exec_eq_rotInstr_atHL o s, rotFlagRow_describes rfl⟩
  | bitInstr k x =>
    cases x with
    | reg r => exact ⟨_, exec_eq_bitInstr_reg k r s, bitInstr_describes rfl⟩
    | atHL => exact ⟨_, exec_eq_bitInstr_atHL k s, bitInstr_describes rfl⟩
  | resInstr k x =>
    have hrow := flagRow_resInstr k x
    cases x with
    | reg r => exact ⟨_, exec_eq_resInstr_reg k r s, describes_of_kept hrow (setReg_f ..)⟩
    | atHL => exact ⟨_, exec_eq_resInstr_atHL k s, describes_of_kept hrow rfl⟩
  | setInstr k x =>
    have hrow := flagRow_setInstr k x
    cases x with
    | reg r => exact ⟨_, exec_eq_setInstr_reg k r s, describes_of_kept hrow (setReg_f ..)⟩
    | atHL => exact ⟨_, exec_eq_setInstr_atHL k s, describes_of_kept hrow rfl⟩
  | prefix_CB op2 => cases hw
  | rlca | rrca | rla | rra => exact ⟨_, rfl, describes_of_packF (by decide) rfl rfl rfl rfl trivial⟩
  | daa => exact ⟨_, exec_eq_daa s, daa_describes rfl⟩
  | cpl => exact ⟨_, exec_eq_cpl s, describes_of_packF (by decide) rfl rfl rfl rfl rfl⟩
  | scf => exact ⟨_, exec_eq_scf s, describes_of_packF (by decide) rfl rfl rfl rfl rfl⟩
  | ccf => exact ⟨_, exec_eq_ccf s, describes_of_packF (by decide) rfl rfl rfl rfl trivial⟩
  | add_SP_e e => exact ⟨_, exec_eq_add_SP_e e s, addSpFlags_describes rfl⟩
  | ld_HL_SPe e => exact ⟨_, exec_eq_ld_HL_SPe e s, addSpFlags_describes rfl⟩
  | ld_atnn_SP nn => exact ⟨_, exec_eq_ld_atnn_SP nn s, describes_of_kept rfl (by simp)⟩
  | ld_atHLinc_A => exact ⟨_, exec_eq_ld_atHLinc_A s, describes_of_kept rfl (by simp)⟩
  | ld_atHLdec_A => exact ⟨_, exec_eq_ld_atHLdec_A s, describes_of_kept rfl (by simp)⟩
  | call_nn nn => exact ⟨_, exec_eq_call_nn nn s, describes_of_kept rfl (by simp)⟩
  | _ => exact ⟨_, rfl, describes_of_kept rfl rfl⟩

/-- Settles O18: `exec` answers at most one state, and the instruction's row describes it. -/
theorem flagsFollowTheTable : Obligations.FlagsFollowTheTable := by
  unfold Obligations.FlagsFollowTheTable
  intro i s t hw he
  obtain ⟨t', he', hd⟩ := flagRow_describes_exec hw s
  cases he'.symm.trans he
  exact hd

end Sys2Proof.Machine
end

section
/-! SUPPORT. Memory and the stack (20_memory.md sections 3, 4 and 6): the engine's store and the push in the words of the claims, a pop
after a push, and what every instruction can store against the table of R71. -/
namespace Sys2Proof.Machine

open Sys2Proof.Claims

/-! ### The store (R63, R64) -/

theorem stored_memWrite (addr : Word) (v : Byte) (s : State) : Stored addr v s (memWrite config addr v s) := by
  refine ⟨?_, fun x hx => ?_⟩
  · rw [memWrite_rd, if_pos rfl]
  · rw [memWrite_rd, if_neg hx]

/-- Settles O6: `memWrite_rd` at the stored address and at every other one. -/
theorem storeThenRead : Obligations.StoreThenRead := by
  unfold Obligations.StoreThenRead
  exact fun s addr v => stored_memWrite addr v s

/-! ### The push (R68) -/

theorem hi8_eq_ofNat (v : Word) : hi8 v = BitVec.ofNat 8 (v.toNat / 256) := by
  rw [← toNat_hi8, BitVec.ofNat_toNat, BitVec.setWidth_eq]

theorem lo8_eq_ofNat (v : Word) : lo8 v = BitVec.ofNat 8 (v.toNat % 256) := by
  rw [← toNat_lo8, BitVec.ofNat_toNat, BitVec.setWidth_eq]

/-- The low byte is stored last, at the other address of the two, so it leaves the high byte. -/
theorem pushed_push16 (v : Word) (s : State) : Pushed v s (push16 config v s) := by
  refine ⟨push16_sp config v s, ?_, ?_, fun x h1 h2 => ?_⟩
  · rw [push16_rd, if_neg (sub_two_ne_sub_one s.sp).symm, if_pos rfl, hi8_eq_ofNat]
  · rw [push16_rd, if_pos rfl, lo8_eq_ofNat]
  · rw [push16_rd, if_neg h2, if_neg h1]

/-- Settles O7: memory and SP are `pushed_push16`; a push writes no other field. -/
theorem pushStoresHighByteFirst : Obligations.PushStoresHighByteFirst := by
  unfold Obligations.PushStoresHighByteFirst
  exact fun s v => ⟨pushed_push16 v s, ⟨fun r _ => push16_reg config v s r, rfl, rfl, rfl, rfl, rfl⟩, rfl, rfl, rfl⟩

/-! ### A pop after a push (R69) -/

/-- Off the divider the word on top after a push is the word pushed. -/
theorem stackTop_push16_of_ne {s : State} (v : Word) (h1 : s.sp - 1 ≠ config.addrDiv) (h2 : s.sp - 2 ≠ config.addrDiv) :
    stackTop (push16 config v s) = v := by
  rw [stackTop_push16, if_neg h1, if_neg h2, cat16_hi8_lo8]

theorem dropTop_push16_sp (v : Word) (s : State) : (dropTop (push16 config v s)).sp = s.sp := by
  rw [dropTop_sp, push16_sp, sub_two_add_two]

@[simp] theorem stackTop_retireWith (len cost : Nat) (s : State) : stackTop (retireWith len cost s) = stackTop s := rfl

/-- The mask of POP AF (D10) leaves a byte whose low nibble is zero. -/
theorem and_F0_of_low {v : Byte} (h : v &&& 0x0F = 0) : v &&& 0xF0 = v :=
  calc v &&& 0xF0 = (v &&& 0xF0) ||| (v &&& 0x0F) := by rw [h]; exact BitVec.or_zero.symm
    _ = v &&& BitVec.allOnes 8 := BitVec.and_or_distrib_left.symm
    _ = v := BitVec.and_allOnes

/-- A pair read from a state with a clean F and written to any state is what is read there. -/
theorem setStackPair_stackPair_of_flagsClean {s : State} (t : State) (p : StackPair) (h : s.flagsClean) :
    (t.setStackPair p (s.stackPair p)).stackPair p = s.stackPair p := by
  cases p with
  | bc | de | hl => exact cat16_hi8_lo8 _
  | af =>
    show cat16 (hi8 (cat16 s.a s.f)) (lo8 (cat16 s.a s.f) &&& 0xF0) = cat16 s.a s.f
    rw [hi8_cat16, lo8_cat16, and_F0_of_low h]

/-- Settles O8: the word popped is the one pushed, and `flagsClean` says that the mask of POP AF does not change it. -/
theorem pushThenPopRoundTrips : Obligations.PushThenPopRoundTrips := by
  unfold Obligations.PushThenPopRoundTrips
  refine ⟨fun s v h1 h2 => ⟨stackTop_push16_of_ne v h1 h2, dropTop_push16_sp v s⟩, fun s t p h1 h2 hf he => ?_⟩
  cases (exec_eq_pushInstr p s).symm.trans he
  refine ⟨_, exec_eq_popInstr p _, ?_, ?_⟩
  · rw [stackTop_retireWith, stackTop_push16_of_ne _ h1 h2, retireWith_stackPair, setStackPair_stackPair_of_flagsClean _ p hf]
  · rw [retireWith_sp, setStackPair_sp, dropTop_sp, retireWith_sp, push16_sp, sub_two_add_two]

/-! ### The addresses of a row of R71 -/

/-- Only bytes at the addresses listed differ. -/
def StoresWithin (addrs : List Word) (s t : State) : Prop := ∀ x : Word, x ∉ addrs → t.rd x = s.rd x

theorem rd_of_mem_eq {s t : State} (h : t.mem = s.mem) (x : Word) : t.rd x = s.rd x := by
  rw [State.rd, State.rd, h]

/-- What leaves memory alone stores within any list. -/
theorem storesWithin_of_mem_eq {addrs : List Word} {s t : State} (h : t.mem = s.mem) : StoresWithin addrs s t :=
  fun x _ => rd_of_mem_eq h x

/-- One store by the engine, at the one address listed. -/
theorem storesWithin_of_store {addrs : List Word} {a : Word} {v : Byte} {s t : State} (ha : addrs = [a])
    (hm : t.mem = (memWrite config a v s).mem) : StoresWithin addrs s t := by
  subst ha
  intro x hx
  obtain ⟨-, hother⟩ := stored_memWrite a v s
  exact (rd_of_mem_eq hm x).trans (hother x (List.ne_of_not_mem_cons hx))

/-- One 16-bit store. -/
theorem storesWithin_of_store16 {a v : Word} {s t : State} (hm : t.mem = (memWrite16 config a v s).mem) :
    StoresWithin [a, a + 1] s t := by
  intro x hx
  obtain ⟨h0, h1⟩ : x ≠ a ∧ x ≠ a + 1 := by simpa using hx
  rw [rd_of_mem_eq hm x, memWrite16_rd, if_neg h1, if_neg h0]

/-- One push. -/
theorem storesWithin_of_push {addrs : List Word} {v : Word} {s t : State} (ha : addrs = [s.sp - 1, s.sp - 2])
    (hm : t.mem = (push16 config v s).mem) : StoresWithin addrs s t := by
  subst ha
  intro x hx
  obtain ⟨h1, h2⟩ : x ≠ s.sp - 1 ∧ x ≠ s.sp - 2 := by simpa using hx
  obtain ⟨-, -, -, hother⟩ := pushed_push16 v s
  exact (rd_of_mem_eq hm x).trans (hother x h1 h2)

/-- The rows of the forms that write the byte at HL. -/
theorem storesTo_loadInstr_atHL_reg (r : Reg8) (s : State) : storesTo (loadInstr .atHL (.reg r)) s = [s.hl] := by
  cases r <;> rfl

theorem storesTo_rotInstr_atHL (o : RotOp) (s : State) : storesTo (rotInstr o .atHL) s = [s.hl] := by cases o <;> rfl

theorem storesTo_resInstr_atHL (k : Code3) (s : State) : storesTo (resInstr k .atHL) s = [s.hl] := by cases k <;> rfl

theorem storesTo_setInstr_atHL (k : Code3) (s : State) : storesTo (setInstr k .atHL) s = [s.hl] := by cases k <;> rfl

/-- The rows of the forms that push. -/
theorem storesTo_pushInstr (p : StackPair) (s : State) : storesTo (pushInstr p) s = [s.sp - 1, s.sp - 2] := by
  cases p <;> rfl

theorem storesTo_rstInstr (k : Code3) (s : State) : storesTo (rstInstr k) s = [s.sp - 1, s.sp - 2] := by cases k <;> rfl

theorem storesTo_callIfInstr (nn : Word) (cc : Cond) (s : State) :
    storesTo (callIfInstr nn cc) s = if s.cond cc then [s.sp - 1, s.sp - 2] else [] := by
  cases cc <;> rfl

/-- Memory of a conditional form whose two sides both leave it. -/
theorem ite_mem {b : Bool} {s t u : State} (ht : t.mem = s.mem) (hu : u.mem = s.mem) : (if b then t else u).mem = s.mem := by
  cases b
  · exact hu
  · exact ht

/-! ### Every instruction -/

/-- Every instruction the decoder can yield stores within its row. The cases are the shapes, then the instructions that stand alone and
store; the last case is every other one, where memory is as before. -/
theorem storesWithin_exec {i : Instr} (hw : i.wellFormed = true) (s : State) :
    ∃ t, exec i s = .next t ∧ StoresWithin (storesTo i s) s t := by
  cases i using catalog_cases with
  | loadInstr x y =>
    cases x with
    | reg dst =>
      cases y with
      | reg r => exact ⟨_, exec_eq_loadInstr_reg_reg dst r s, storesWithin_of_mem_eq (setReg_mem ..)⟩
      | atHL => exact ⟨_, exec_eq_loadInstr_reg_atHL dst s, storesWithin_of_mem_eq (setReg_mem ..)⟩
    | atHL =>
      cases y with
      | reg r => exact ⟨_, exec_eq_loadInstr_atHL_reg r s, storesWithin_of_store (storesTo_loadInstr_atHL_reg r s) rfl⟩
      | atHL => exact ⟨_, exec_eq_loadInstr_atHL_atHL s, storesWithin_of_mem_eq rfl⟩
  | aluInstr o x =>
    cases x with
    | reg r => exact ⟨_, exec_eq_aluInstr_reg o r s, storesWithin_of_mem_eq rfl⟩
    | atHL => exact ⟨_, exec_eq_aluInstr_atHL o s, storesWithin_of_mem_eq rfl⟩
  | aluImmInstr n o => exact ⟨_, exec_eq_aluImmInstr n o s, storesWithin_of_mem_eq rfl⟩
  | incInstr x =>
    cases x with
    | reg r => exact ⟨_, exec_eq_incInstr_reg r s, storesWithin_of_mem_eq (setReg_mem ..)⟩
    | atHL => exact ⟨_, exec_eq_incInstr_atHL s, storesWithin_of_store rfl rfl⟩
  | decInstr x =>
    cases x with
    | reg r => exact ⟨_, exec_eq_decInstr_reg r s, storesWithin_of_mem_eq (setReg_mem ..)⟩
    | atHL => exact ⟨_, exec_eq_decInstr_atHL s, storesWithin_of_store rfl rfl⟩
  | loadImmInstr n x =>
    cases x with
    | reg r => exact ⟨_, exec_eq_loadImmInstr_reg n r s, storesWithin_of_mem_eq (setReg_mem ..)⟩
    | atHL => exact ⟨_, exec_eq_loadImmInstr_atHL n s, storesWithin_of_store rfl rfl⟩
  | loadPairInstr nn p => exact ⟨_, exec_eq_loadPairInstr nn p s, storesWithin_of_mem_eq (setPair_mem ..)⟩
  | addHlInstr p => exact ⟨_, exec_eq_addHlInstr p s, storesWithin_of_mem_eq (setPair_mem ..)⟩
  | incPairInstr p => exact ⟨_, exec_eq_incPairInstr p s, storesWithin_of_mem_eq (setPair_mem ..)⟩
  | decPairInstr p => exact ⟨_, exec_eq_decPairInstr p s, storesWithin_of_mem_eq (setPair_mem ..)⟩
  | pushInstr p => exact ⟨_, exec_eq_pushInstr p s, storesWithin_of_push (storesTo_pushInstr p s) rfl⟩
  | popInstr p => exact ⟨_, exec_eq_popInstr p s, storesWithin_of_mem_eq (setStackPair_mem ..)⟩
  | jumpIfInstr nn cc => exact ⟨_, exec_eq_jumpIfInstr nn cc s, storesWithin_of_mem_eq (ite_mem rfl rfl)⟩
  | callIfInstr nn cc =>
    refine ⟨_, exec_eq_callIfInstr nn cc s, ?_⟩
    rw [storesTo_callIfInstr]
    cases s.cond cc with
    | true => exact storesWithin_of_push rfl rfl
    | false => exact storesWithin_of_mem_eq rfl
  | retIfInstr cc => exact ⟨_, exec_eq_retIfInstr cc s, storesWithin_of_mem_eq (ite_mem rfl rfl)⟩
  | jumpRelIfInstr e cc => exact ⟨_, exec_eq_jumpRelIfInstr e cc s, storesWithin_of_mem_eq (ite_mem rfl rfl)⟩
  | rstInstr k => exact ⟨_, exec_eq_rstInstr k s, storesWithin_of_push (storesTo_rstInstr k s) rfl⟩
  | rotInstr o x =>
    cases x with
    | reg r => exact ⟨_, exec_eq_rotInstr_reg o r s, storesWithin_of_mem_eq (setReg_mem ..)⟩
    | atHL => exact ⟨_, exec_eq_rotInstr_atHL o s, storesWithin_of_store (storesTo_rotInstr_atHL o s) rfl⟩
  | bitInstr k x =>
    cases x with
    | reg r => exact ⟨_, exec_eq_bitInstr_reg k r s, storesWithin_of_mem_eq rfl⟩
    | atHL => exact ⟨_, exec_eq_bitInstr_atHL k s, storesWithin_of_mem_eq rfl⟩
  | resInstr k x =>
    cases x with
    | reg r => exact ⟨_, exec_eq_resInstr_reg k r s, storesWithin_of_mem_eq (setReg_mem ..)⟩
    | atHL => exact ⟨_, exec_eq_resInstr_atHL k s, storesWithin_of_store (storesTo_resInstr_atHL k s) rfl⟩
  | setInstr k x =>
    cases x with
    | reg r => exact ⟨_, exec_eq_setInstr_reg k r s, storesWithin_of_mem_eq (setReg_mem ..)⟩
    | atHL => exact ⟨_, exec_eq_setInstr_atHL k s, storesWithin_of_store (storesTo_setInstr_atHL k s) rfl⟩
  | prefix_CB op2 => cases hw
  | ld_atBC_A => exact ⟨_, exec_eq_ld_atBC_A s, storesWithin_of_store rfl rfl⟩
  | ld_atDE_A => exact ⟨_, exec_eq_ld_atDE_A s, storesWithin_of_store rfl rfl⟩
  | ld_atC_A => exact ⟨_, exec_eq_ld_atC_A s, storesWithin_of_store rfl rfl⟩
  | ldh_atn_A n => exact ⟨_, exec_eq_ldh_atn_A n s, storesWithin_of_store rfl rfl⟩
  | ld_atnn_A nn => exact ⟨_, exec_eq_ld_atnn_A nn s, storesWithin_of_store rfl rfl⟩
  | ld_atHLinc_A => exact ⟨_, exec_eq_ld_atHLinc_A s, storesWithin_of_store rfl (setPair_mem ..)⟩
  | ld_atHLdec_A => exact ⟨_, exec_eq_ld_atHLdec_A s, storesWithin_of_store rfl (setPair_mem ..)⟩
  | ld_atnn_SP nn => exact ⟨_, exec_eq_ld_atnn_SP nn s, storesWithin_of_store16 rfl⟩
  | call_nn nn => exact ⟨_, exec_eq_call_nn nn s, storesWithin_of_push rfl rfl⟩
  | _ => exact ⟨_, rfl, storesWithin_of_mem_eq rfl⟩

/-- Settles O19: `exec` answers at most one state, and it stores within the instruction's row. -/
theorem storesFollowTheTable : Obligations.StoresFollowTheTable := by
  unfold Obligations.StoresFollowTheTable
  intro i s t hw he
  obtain ⟨t', he', hs⟩ := storesWithin_exec hw s
  cases he'.symm.trans he
  exact hs

end Sys2Proof.Machine
end

section
/-! SUPPORT. Encoding and decoding (30_encoding.md). What the decoder reads from three bytes encodes to the first of those bytes, by
quadrant: an opcode byte is its three fields (`opByte_fields`), and each entry of a quadrant encodes to the byte of its fields. With the
length fixed by the first byte (`instrLength_eq_firstByteLength`) and the decoder yielding well-formed instructions only, an instruction is
then known from its bytes, whatever follows them (`decode_of_encodedIn`). -/
namespace Sys2Proof.Machine

open Sys2Proof.Claims Sys2Proof.Laws

/-! ### An opcode byte and its fields -/

/-- The first opcode of a quadrant (R91). -/
def quadrantStart : Code2 → Nat
  | .k0 => 0x00
  | .k1 => 0x40
  | .k2 => 0x80
  | .k3 => 0xC0

/-- The opcode byte with these fields (R91). -/
def opByte (x : Code2) (y z : Code3) : Byte := BitVec.ofNat 8 (quadrantStart x + 8 * y.index + z.index)

theorem opByte_fields : ∀ b : Byte, opByte (fieldX b) (fieldY b) (fieldZ b) = b := by
  decide

/-! ### The length of an instruction -/

/-- The length by the first byte alone (R90): every instruction of the extended page has 2 bytes (R104). -/
def firstByteLength (b0 : Byte) : Nat := if b0 = prefixByte then 2 else formatLength (.base b0)

/-- The length is the one the format of the opcode names, for every instruction at once (`LengthOfOpcode`). -/
theorem instrLength_eq_formatLength (i : Instr) : instrLength i = formatLength (opcodeOf i) := by
  cases i <;> rfl

theorem instrLength_eq_firstByteLength (i : Instr) : instrLength i = firstByteLength ((encode i).getD 0 0) := by
  rw [instrLength_eq_formatLength, opcodeOf_eq_bytes, firstByteLength]
  split <;> rfl

theorem formatLength_bounds (op : Opcode) : 1 ≤ formatLength op ∧ formatLength op ≤ 3 := by
  cases op with
  | ext b => exact ⟨Nat.le_succ 1, Nat.le_succ 2⟩
  | base b =>
    simp only [formatLength]
    split_ifs <;> decide

theorem instrLength_bounds (i : Instr) : 1 ≤ instrLength i ∧ instrLength i ≤ 3 := by
  rw [instrLength_eq_formatLength]
  exact formatLength_bounds _

/-! ### The bytes an instruction is decoded from -/

/-- The bytes of the instruction are the first of these three, as many as it has. -/
def EncodedIn (i : Instr) (b0 b1 b2 : Byte) : Prop := encode i = [b0, b1, b2].take (instrLength i)

/-- Quadrant 0 (R99): the operand, where there is one, is the byte or the two bytes after the opcode. -/
theorem encodedIn_decodeQuadrant0 (y z : Code3) (nn : Word) :
    EncodedIn (decodeQuadrant0 y z (lo8 nn) nn) (opByte .k0 y z) (lo8 nn) (hi8 nn) := by
  cases z <;> cases y <;> rfl

/-- Quadrant 1 (R100). -/
theorem encodedIn_loadInstr (y z : Code3) (b1 b2 : Byte) :
    EncodedIn (loadInstr (operand8Of y) (operand8Of z)) (opByte .k1 y z) b1 b2 := by
  cases y <;> cases z <;> rfl

/-- Quadrant 2 (R101). -/
theorem encodedIn_aluInstr (y z : Code3) (b1 b2 : Byte) :
    EncodedIn (aluInstr (aluOpOf y) (operand8Of z)) (opByte .k2 y z) b1 b2 := by
  cases y <;> cases z <;> rfl

/-- Quadrant 3 (R102, R103). -/
theorem encodedIn_decodeQuadrant3 (y z : Code3) (nn : Word) :
    EncodedIn (decodeQuadrant3 y z (lo8 nn) nn) (opByte .k3 y z) (lo8 nn) (hi8 nn) := by
  cases z <;> cases y <;> rfl

/-- The base page (R99 to R103). -/
theorem encodedIn_decodeBase (op : Byte) (nn : Word) :
    EncodedIn (decodeBase op (lo8 nn) nn) op (lo8 nn) (hi8 nn) := by
  have hop := opByte_fields op
  unfold decodeBase
  generalize fieldX op = x, fieldY op = y, fieldZ op = z at hop
  subst hop
  cases x with
  | k0 => exact encodedIn_decodeQuadrant0 y z nn
  | k1 => exact encodedIn_loadInstr y z ..
  | k2 => exact encodedIn_aluInstr y z ..
  | k3 => exact encodedIn_decodeQuadrant3 y z nn

/-- The extended page (R104): the marker and the opcode after it. -/
theorem encode_decodeExt (op2 : Byte) : encode (decodeExt op2) = [prefixByte, op2] := by
  conv_rhs => rw [← opByte_fields op2]
  unfold decodeExt
  generalize fieldX op2 = x, fieldY op2 = y, fieldZ op2 = z
  cases x <;> cases y <;> cases z <;> rfl

theorem encodedIn_decodeExt (op2 b2 : Byte) : EncodedIn (decodeExt op2) prefixByte op2 b2 := by
  rw [EncodedIn, instrLength, encode_decodeExt]
  rfl

/-- Every three bytes hold the instruction they decode to (R92, R98). -/
theorem encodedIn_decode (b0 b1 b2 : Byte) : EncodedIn (decode b0 b1 b2) b0 b1 b2 := by
  unfold decode
  split
  · next h => exact h ▸ encodedIn_decodeExt b1 b2
  · simpa only [lo8_cat16, hi8_cat16] using encodedIn_decodeBase b0 (cat16 b2 b1)

theorem EncodedIn.firstByte {i : Instr} {b0 b1 b2 : Byte} (h : EncodedIn i b0 b1 b2) : (encode i).getD 0 0 = b0 := by
  obtain ⟨n, hn⟩ := Nat.exists_eq_add_of_le' (instrLength_bounds i).1
  rw [h, hn]
  rfl

theorem EncodedIn.instrLength_eq {i : Instr} {b0 b1 b2 : Byte} (h : EncodedIn i b0 b1 b2) : instrLength i = firstByteLength b0 := by
  rw [instrLength_eq_firstByteLength, h.firstByte]

/-! ### What the decoder yields -/

theorem wellFormed_decodeExt (op2 : Byte) : (decodeExt op2).wellFormed = true := by
  unfold decodeExt
  generalize fieldX op2 = x, fieldY op2 = y, fieldZ op2 = z
  cases x <;> cases y <;> cases z <;> rfl

/-- Only the marker's own place on the base page holds its entry (R105). -/
theorem wellFormed_decodeBase {op : Byte} (n : Byte) (nn : Word) (h : op ≠ prefixByte) :
    (decodeBase op n nn).wellFormed = true := by
  have hm := eq_prefixByte_of_fields op
  unfold decodeBase
  generalize fieldX op = x, fieldY op = y, fieldZ op = z at hm
  cases x with
  | k0 | k1 | k2 => cases z <;> cases y <;> rfl
  | k3 =>
    cases z with
    | k3 =>
      cases y with
      | k1 => exact absurd (hm rfl rfl rfl) h
      | _ => rfl
    | _ => cases y <;> rfl

theorem wellFormed_decode (b0 b1 b2 : Byte) : (decode b0 b1 b2).wellFormed = true := by
  unfold decode
  split
  · exact wellFormed_decodeExt b1
  · next h => exact wellFormed_decodeBase b1 _ h

/-- No two instructions of the machine have the same bytes. -/
theorem eq_of_encode_eq {i j : Instr} (hi : i.wellFormed = true) (hj : j.wellFormed = true) (h : encode i = encode j) :
    i = j := by
  rw [← decode_encode_bytes hi, h, decode_encode_bytes hj]

/-- Bytes that begin with those of an instruction decode to it: what they decode to has the same first byte, so the same length, so the
same bytes. -/
theorem decode_of_encodedIn {i : Instr} (hi : i.wellFormed = true) {b0 b1 b2 : Byte} (h : EncodedIn i b0 b1 b2) :
    decode b0 b1 b2 = i := by
  have hd := encodedIn_decode b0 b1 b2
  have hlen : instrLength (decode b0 b1 b2) = instrLength i := hd.instrLength_eq.trans h.instrLength_eq.symm
  exact eq_of_encode_eq (wellFormed_decode b0 b1 b2) hi (by rw [hd, h, hlen])

/-! ### The bytes at the head of a list -/

theorem take_getD_append {l : List Byte} (r : List Byte) (h : l.length ≤ 3) :
    l = [(l ++ r).getD 0 0, (l ++ r).getD 1 0, (l ++ r).getD 2 0].take l.length := by
  match l, h with
  | [], _ | [_], _ | [_, _], _ | [_, _, _], _ => rfl

theorem encodedIn_append (i : Instr) (rest : List Byte) :
    EncodedIn i ((encode i ++ rest).getD 0 0) ((encode i ++ rest).getD 1 0) ((encode i ++ rest).getD 2 0) :=
  take_getD_append rest (instrLength_bounds i).2

/-! ### The statements -/

/-- Settles O1: the list begins with the instruction's bytes, so it decodes to it (`decode_of_encodedIn`); its length drops them. -/
theorem decodeOfEncodedInstruction : Obligations.DecodeOfEncodedInstruction := by
  unfold Obligations.DecodeOfEncodedInstruction
  intro i rest hi
  have hle : instrLength i ≤ (encode i ++ rest).length := by simp [instrLength]
  have hdrop : (encode i ++ rest).drop (instrLength i) = rest := List.drop_left
  simp only [decodeBytes, decode_of_encodedIn hi (encodedIn_append i rest), if_pos hle, hdrop]

/-- Settles O2: `encodedIn_decode`. -/
theorem encodeOfDecodedBytes : Obligations.EncodeOfDecodedBytes := by
  unfold Obligations.EncodeOfDecodedBytes
  exact encodedIn_decode

/-- Settles O3: the length is that of the opcode's format, and what three bytes decode to has the first of them for its own. -/
theorem lengthFixedByFirstByte : Obligations.LengthFixedByFirstByte := by
  unfold Obligations.LengthFixedByFirstByte
  refine ⟨instrLength_bounds, fun b0 b1 b2 c1 c2 => ?_, fun b1 b2 => ?_⟩
  · exact (encodedIn_decode b0 b1 b2).instrLength_eq.trans (encodedIn_decode b0 c1 c2).instrLength_eq.symm
  · exact (encodedIn_decode 0xCB b1 b2).instrLength_eq

/-- Settles O4: the decoder yields well-formed instructions, and a first byte 0xCB sends the second to `decodeExt`. -/
theorem prefixEntryNeverDecoded : Obligations.PrefixEntryNeverDecoded := by
  unfold Obligations.PrefixEntryNeverDecoded
  refine ⟨wellFormed_decode, fun b1 b2 => ?_, rfl⟩
  have hpage : decode 0xCB b1 b2 = decodeExt b1 := if_pos rfl
  rw [hpage, opcodeOf_eq_bytes, encode_decodeExt]
  rfl

/-- Settles O5: each word is decoded by evaluation. -/
theorem sampleEncodingsDecode : Obligations.SampleEncodingsDecode := by
  unfold Obligations.SampleEncodingsDecode
  decide

end Sys2Proof.Machine
end

section
/-! SUPPORT. 8-bit arithmetic and logic (40_alu8.md) in the words of the claims: what an instruction that writes one register and F leaves,
the two-operand operations on A in all their forms, INC and DEC of a byte, and the operations on A alone. -/
namespace Sys2Proof.Machine

open Sys2Proof.Claims

/-! ### What is left unchanged -/

/-- SP, memory, the gate, the run state, the hidden accumulators and every register but those listed are as before. -/
def OnlyWrites (rs : List Reg8) (s t : State) : Prop := t.sp = s.sp ∧ MemSame s t ∧ Frame rs s t

/-- An instruction that writes F alone. -/
theorem onlyWrites_flags (w : Byte) (len cost : Nat) (s : State) :
    OnlyWrites [] s (retireWith len cost { s with f := w }) :=
  ⟨rfl, fun _ => rfl, fun r _ => retireWith_reg len cost _ r, rfl, rfl, rfl, rfl, rfl⟩

/-- An instruction that writes one register and F. -/
theorem onlyWrites_setReg (r : Reg8) (v w : Byte) (len cost : Nat) (s : State) :
    OnlyWrites [r] s (retireWith len cost (State.setReg { s with f := w } r v)) := by
  refine ⟨setReg_sp .., fun x => setReg_rd .., fun q hq => ?_, setReg_ime .., setReg_run .., setReg_divAcc .., setReg_timaAcc ..,
    setReg_lcdAcc ..⟩
  rw [retireWith_reg, setReg_reg, if_neg (List.mem_singleton.not.1 hq)]
  rfl

/-- An instruction that writes A and F. -/
theorem onlyWrites_acc (v w : Byte) (len cost : Nat) (s : State) :
    OnlyWrites [.a] s (retireWith len cost { s with a := v, f := w }) :=
  onlyWrites_setReg .a v w len cost s

/-- A store that also writes F leaves every register, SP and the hidden state. -/
theorem frame_memWrite (x : Word) (v w : Byte) (len cost : Nat) (s : State) :
    Frame [] s (retireWith len cost (memWrite config x v { s with f := w })) :=
  ⟨fun r _ => memWrite_reg config x v { s with f := w } r, rfl, rfl, rfl, rfl, rfl⟩

/-! ### The two-operand operations on A (R120) -/

theorem hasBytes_aluInstr (o : AluOp) (x : Operand8) : HasBytes (aluInstr o x) [0x80 + 8 * aluCode o + code8 x] := by
  rcases x with (_ | _ | _ | _ | _ | _ | _) | _ <;> cases o <;> rfl

theorem hasBytes_aluImmInstr (n : Byte) (o : AluOp) : HasBytes (aluImmInstr n o) [0xC6 + 8 * aluCode o, n.toNat] := by
  have hn : BitVec.ofNat 8 n.toNat = n := by rw [BitVec.ofNat_toNat, BitVec.setWidth_eq]
  rw [HasBytes, List.map_cons, List.map_singleton, hn]
  cases o <;> rfl

theorem exec_aluInstr (o : AluOp) (x : Operand8) (s : State) :
    exec (aluInstr o x) s = .next (retireWith 1 (if x = .atHL then 8 else 4) (aluA o (valueOf x s) s)) := by
  cases x with
  | reg r => exact exec_eq_aluInstr_reg o r s
  | atHL => exact exec_eq_aluInstr_atHL o s

/-- All ten forms end in `aluA` of the operand's value, so what holds after `aluA` holds of each. -/
theorem aluForms_of_aluA {o : AluOp} {s : State} {n : Byte} {P : Byte → State → Prop}
    (h : ∀ b len cost, P b (retireWith len cost (aluA o b s))) : AluForms o s n P :=
  ⟨fun x => ⟨hasBytes_aluInstr o x, _, exec_aluInstr o x s, h .., rfl, rfl⟩,
    hasBytes_aluImmInstr n o, _, exec_eq_aluImmInstr n o s, h .., rfl, rfl⟩

/-- The difference is 0 as a byte exactly when it is a multiple of 256. -/
theorem sub8_flags (a b : Byte) (cin : Bool) :
    (sub8 a b cin).flags = packF (decide (((a.toNat : Int) - b.toNat - cin.toNat) % 256 = 0)) true
      (halfSub8 a b cin) (carrySub8 a b cin) := by
  rw [← sub8_toInt]
  simp only [Int.natCast_eq_zero, ← beq_zero_eq]
  rfl

section
variable {s : State} {o : AluOp} {b : Byte} {cin : Bool} (len cost : Nat)

theorem sumIntoA_of_add8 (h : alu8 o s.a b s.flagC = add8 s.a b cin) :
    SumIntoA s b cin.toNat (retireWith len cost (aluA o b s)) := by
  rw [aluA, h]
  exact ⟨add8_toNat s.a b cin, flags_of_packF rfl, onlyWrites_acc ..⟩

theorem differenceFlags_of_f {t : State} (hf : t.f = (sub8 s.a b cin).flags) : DifferenceFlags s b cin.toNat t :=
  flags_of_packF (hf.trans (sub8_flags s.a b cin))

theorem differenceIntoA_of_sub8 (h : alu8 o s.a b s.flagC = sub8 s.a b cin) :
    DifferenceIntoA s b cin.toNat (retireWith len cost (aluA o b s)) := by
  rw [aluA, h]
  exact ⟨sub8_toInt s.a b cin, differenceFlags_of_f rfl, onlyWrites_acc ..⟩

/-- CP puts A back as it was. -/
theorem compared_aluA : Compared s b (retireWith len cost (aluA .cp b s)) :=
  ⟨differenceFlags_of_f (cin := false) rfl, onlyWrites_flags ..⟩

theorem logicIntoA_of_packF {r : Byte} {half : Bool} (h : alu8 o s.a b s.flagC = ⟨r, packF (r == 0) false half false⟩) :
    LogicIntoA s r half (retireWith len cost (aluA o b s)) := by
  rw [aluA, h]
  exact ⟨rfl, flags_of_packF rfl, onlyWrites_acc ..⟩

end

/-- Settles O30: ADD is `add8` with no carry in, ADC with the carry flag. -/
theorem addAndAdcResults : Obligations.AddAndAdcResults := by
  unfold Obligations.AddAndAdcResults
  intro s n
  constructor
  · exact aluForms_of_aluA fun b len cost => sumIntoA_of_add8 (cin := false) len cost rfl
  · exact aluForms_of_aluA fun b len cost => sumIntoA_of_add8 len cost rfl

/-- Settles O31: SUB and CP are `sub8` with no borrow in, SBC with the carry flag. -/
theorem subSbcAndCpResults : Obligations.SubSbcAndCpResults := by
  unfold Obligations.SubSbcAndCpResults
  intro s n
  refine ⟨?_, ?_, ?_⟩
  · exact aluForms_of_aluA fun b len cost => differenceIntoA_of_sub8 (cin := false) len cost rfl
  · exact aluForms_of_aluA fun b len cost => differenceIntoA_of_sub8 len cost rfl
  · exact aluForms_of_aluA fun b len cost => compared_aluA len cost

/-- Settles O32: each is its bitwise operation with the flags `logicIntoA_of_packF` reads. -/
theorem logicResults : Obligations.LogicResults := by
  unfold Obligations.LogicResults
  intro s n
  refine ⟨?_, ?_, ?_⟩ <;> exact aluForms_of_aluA fun b len cost => logicIntoA_of_packF len cost rfl

/-! ### INC and DEC of a byte (R145 to R148) -/

theorem hasBytes_incInstr (x : Operand8) : HasBytes (incInstr x) [0x04 + 8 * code8 x] := by
  rcases x with (_ | _ | _ | _ | _ | _ | _) | _ <;> rfl

theorem hasBytes_decInstr (x : Operand8) : HasBytes (decInstr x) [0x05 + 8 * code8 x] := by
  rcases x with (_ | _ | _ | _ | _ | _ | _) | _ <;> rfl

theorem inc8_flags (v : Byte) (c : Bool) :
    (inc8 v c).flags = packF (decide ((v.toNat + 1) % 256 = 0)) false (decide (v.toNat % 16 = 15)) c := by
  rw [← inc8_toNat v c, ← beq_zero_eq]
  rfl

theorem dec8_flags (v : Byte) (c : Bool) :
    (dec8 v c).flags = packF (decide (v.toNat = 1)) true (decide (v.toNat % 16 = 0)) c := by
  have hv := v.isLt
  have hzero : ((v.toNat + 255) % 256 = 0) = (v.toNat = 1) := propext (by omega)
  simp only [← hzero, ← dec8_toNat v c, ← beq_zero_eq]
  rfl

theorem inc8_value_eq_ofNat (v : Byte) (c : Bool) : (inc8 v c).value = BitVec.ofNat 8 (v.toNat + 1) :=
  BitVec.eq_of_toNat_eq (by rw [inc8_toNat, BitVec.toNat_ofNat])

theorem dec8_value_eq_ofNat (v : Byte) (c : Bool) : (dec8 v c).value = BitVec.ofNat 8 (v.toNat + 255) :=
  BitVec.eq_of_toNat_eq (by rw [dec8_toNat, BitVec.toNat_ofNat])

/-- An instruction that ends with one register and F written and retires (R270), in the words of the claims. -/
theorem writesReg_of_exec {i : Instr} {s : State} {r : Reg8} {v w : Byte} {k len cost : Nat} {z n h c : Bool}
    (he : exec i s = .next (retireWith len cost (State.setReg { s with f := w } r v))) (hv : v.toNat = k)
    (hw : w = packF z n h c) :
    ∃ t, exec i s = .next t ∧ (t.reg r).toNat = k ∧ FlagsAre t z n h c
      ∧ t.sp = s.sp ∧ MemSame s t ∧ Frame [r] s t ∧ Retired len cost s t := by
  obtain ⟨hsp, hmem, hframe⟩ := onlyWrites_setReg r v w len cost s
  refine ⟨_, he, ?_, flags_of_packF ?_, hsp, hmem, hframe, ?_, ?_⟩
  · rw [retireWith_reg, setReg_reg, if_pos rfl, hv]
  · rw [retireWith_f, setReg_f, hw]
  · rw [retireWith_pc, setReg_pc]
  · rw [retireWith_cycles, setReg_cycles]

/-- An instruction that ends with one byte stored and F written and retires, in the words of the claims. -/
theorem storesByte_of_exec {i : Instr} {s : State} {x : Word} {v v' w : Byte} {len cost : Nat} {z n h c : Bool}
    (he : exec i s = .next (retireWith len cost (memWrite config x v { s with f := w }))) (hv : v = v')
    (hw : w = packF z n h c) :
    ∃ t, exec i s = .next t ∧ Stored x v' s t ∧ FlagsAre t z n h c ∧ t.sp = s.sp ∧ Frame [] s t ∧ Retired len cost s t := by
  subst hv
  exact ⟨_, he, stored_memWrite x v { s with f := w }, flags_of_packF hw, rfl, frame_memWrite .., rfl, rfl⟩

/-- An instruction that ends with F alone written and retires, in the words of the claims. -/
theorem writesFlags_of_exec {i : Instr} {s : State} {len cost : Nat} {z n h c : Bool}
    (he : exec i s = .next (retireWith len cost { s with f := packF z n h c })) :
    ∃ t, exec i s = .next t ∧ FlagsAre t z n h c ∧ t.sp = s.sp ∧ MemSame s t ∧ Frame [] s t ∧ Retired len cost s t := by
  obtain ⟨hsp, hmem, hframe⟩ := onlyWrites_flags (packF z n h c) len cost s
  exact ⟨_, he, flags_of_packF rfl, hsp, hmem, hframe, rfl, rfl⟩

/-- Settles O33: the register ends as `inc8` or `dec8` of itself. -/
theorem incDecRegisterResults : Obligations.IncDecRegisterResults := by
  unfold Obligations.IncDecRegisterResults
  intro s r
  exact ⟨⟨hasBytes_incInstr _, writesReg_of_exec (exec_eq_incInstr_reg r s) (inc8_toNat ..) (inc8_flags ..)⟩,
    hasBytes_decInstr _, writesReg_of_exec (exec_eq_decInstr_reg r s) (dec8_toNat ..) (dec8_flags ..)⟩

/-- Settles O34: the byte at HL is stored as `inc8` or `dec8` of itself, with the flags of that value also at the divider. -/
theorem incDecMemoryResults : Obligations.IncDecMemoryResults := by
  unfold Obligations.IncDecMemoryResults
  intro s
  exact ⟨⟨hasBytes_incInstr .atHL, storesByte_of_exec (exec_eq_incInstr_atHL s) (inc8_value_eq_ofNat ..) (inc8_flags ..)⟩,
    hasBytes_decInstr .atHL, storesByte_of_exec (exec_eq_decInstr_atHL s) (dec8_value_eq_ofNat ..) (dec8_flags ..)⟩

/-! ### DAA (R149) -/

/-- The 0x06 part of the correction, as a number: by H, and after an addition also by the low nibble of the unadjusted A. -/
def daaLow (a : Byte) (sub half : Bool) : Int := if half = true ∨ (sub = false ∧ a.toNat % 16 > 9) then 0x06 else 0

/-- The 0x60 part of the correction, as a number: by C, and after an addition also by the unadjusted A. -/
def daaHigh (a : Byte) (sub carry : Bool) : Int := if carry = true ∨ (sub = false ∧ a.toNat > 0x99) then 0x60 else 0

/-- The two parts have no bit in common, so their OR is their sum. -/
theorem toNat_low_or_high (p q : Prop) [Decidable p] [Decidable q] :
    ((((if p then 0x06#8 else 0#8) ||| (if q then 0x60#8 else 0#8)).toNat : Nat) : Int)
      = (if p then 0x06 else 0) + (if q then 0x60 else 0) := by
  by_cases hp : p <;> by_cases hq : q <;> simp only [hp, hq, if_true, if_false] <;> rfl

theorem daaAddCorrection_toNat (a : Byte) (half carry : Bool) :
    ((daaAddCorrection a half carry).toNat : Int) = daaLow a false half + daaHigh a false carry := by
  rw [daaAddCorrection, toNat_low_or_high]
  simp [daaLow, daaHigh]

theorem daaSubCorrection_toNat (a : Byte) (half carry : Bool) :
    ((daaSubCorrection half carry).toNat : Int) = daaLow a true half + daaHigh a true carry := by
  rw [daaSubCorrection, toNat_low_or_high]
  simp [daaLow, daaHigh]

theorem daa8_toInt (a : Byte) (sub half carry : Bool) :
    ((daa8 a sub half carry).value.toNat : Int)
      = ((a.toNat : Int) + (if sub then -1 else 1) * (daaLow a sub half + daaHigh a sub carry)) % 256 := by
  cases sub with
  | false =>
    rw [← daaAddCorrection_toNat]
    show ((a + daaAddCorrection a half carry).toNat : Int) = _
    rw [BitVec.toNat_add, if_neg Bool.false_ne_true]
    omega
  | true =>
    have hc := (daaSubCorrection half carry).isLt
    rw [← daaSubCorrection_toNat]
    show ((a - daaSubCorrection half carry).toNat : Int) = _
    rw [BitVec.toNat_sub, if_pos rfl]
    omega

/-- The carry DAA leaves says whether the 0x60 part was applied. -/
theorem daaHigh_eq (a : Byte) (sub carry : Bool) :
    decide (daaHigh a sub carry = 0x60) = (carry || (!sub && decide (a.toNat > 0x99))) := by
  have hif (p : Prop) [Decidable p] : ((if p then 0x60 else 0 : Int) = 0x60) = p := by
    by_cases hp : p <;> simp [hp]
  simp [daaHigh, hif]

theorem daa8_flags_eq (a : Byte) (sub half carry : Bool) :
    (daa8 a sub half carry).flags
      = packF (decide ((daa8 a sub half carry).value = 0)) sub false (decide (daaHigh a sub carry = 0x60)) := by
  rw [daaHigh_eq]
  cases sub with
  | false => rfl
  | true =>
    rw [Bool.not_true, Bool.false_and, Bool.or_false]
    rfl

/-- Settles O35: A and F are those of `daa8`, whose correction is `daaLow` and `daaHigh` together. -/
theorem decimalAdjustResult : Obligations.DecimalAdjustResult := by
  unfold Obligations.DecimalAdjustResult
  intro s
  obtain ⟨hsp, hmem, hframe⟩ := onlyWrites_acc (daa8 s.a s.flagN s.flagH s.flagC).value
    (daa8 s.a s.flagN s.flagH s.flagC).flags 1 4 s
  exact ⟨rfl, _, exec_eq_daa s, daa8_toInt .., flags_of_packF (daa8_flags_eq ..), hsp, hmem, hframe, rfl, rfl⟩

/-! ### CPL, SCF and CCF (R150 to R152) -/

/-- Settles O36: CPL writes A and F, SCF and CCF write F alone. -/
theorem complementAndCarryResults : Obligations.ComplementAndCarryResults := by
  unfold Obligations.ComplementAndCarryResults
  intro s
  refine ⟨⟨rfl, ?_⟩, ⟨rfl, ?_⟩, rfl, ?_⟩
  · have hnot : (~~~s.a).toNat = 255 - s.a.toNat := BitVec.toNat_not
    exact writesReg_of_exec (r := .a) (exec_eq_cpl s) hnot rfl
  · exact writesFlags_of_exec (exec_eq_scf s)
  · exact writesFlags_of_exec (exec_eq_ccf s)

end Sys2Proof.Machine
end

section
/-! SUPPORT. 16-bit arithmetic (41_alu16.md, 44_stack_load16.md rule R226) in the words of the claims: what an instruction that writes one
pair leaves, the flags and the sum of the SP-relative forms, and the bytes of the pair catalogs. -/
namespace Sys2Proof.Machine

open Sys2Proof.Claims

/-! ### A write to one pair (R22) -/

/-- A write to a pair reaches its own two registers only; a write to SP reaches none. -/
theorem setPair_reg_of_notMem (s : State) (p : Pair) (v : Word) (r : Reg8) : r ∉ halves p → (s.setPair p v).reg r = s.reg r := by
  cases p <;> cases r <;> simp [halves, State.setPair, State.reg]

theorem frame_setPair (p : Pair) (v : Word) (len cost : Nat) (s : State) : Frame (halves p) s (retireWith len cost (s.setPair p v)) :=
  ⟨fun r hr => (retireWith_reg ..).trans (setPair_reg_of_notMem s p v r hr), setPair_ime .., setPair_run .., setPair_divAcc ..,
    setPair_timaAcc .., setPair_lcdAcc ..⟩

/-- An instruction that ends with one pair and F written and retires (R270), in the words of the claims. With `w` the old F it writes
the pair alone; with `p` SP it is ADD SP,e. -/
theorem writesPair_of_exec {i : Instr} {s : State} {p : Pair} {v : Word} {w : Byte} {len cost : Nat}
    (he : exec i s = .next (retireWith len cost (State.setPair { s with f := w } p v))) :
    ∃ t, exec i s = .next t ∧ t.pair p = v ∧ t.f = w ∧ (p ≠ .sp → t.sp = s.sp) ∧ MemSame s t ∧ Frame (halves p) s t
      ∧ Retired len cost s t := by
  refine ⟨_, he, ?_, setPair_f .., fun hp => ?_, fun x => setPair_rd .., frame_setPair p v len cost { s with f := w }, ?_, ?_⟩
  · rw [retireWith_pair, setPair_pair_self]
  · rw [retireWith_sp, setPair_sp, if_neg hp]
  · rw [retireWith_pc, setPair_pc]
  · rw [retireWith_cycles, setPair_cycles]

/-! ### ADD HL,rr (R160) -/

theorem hasBytes_addHlInstr (p : Pair) : HasBytes (addHlInstr p) [0x09 + 16 * pairCode p] := by cases p <;> rfl

/-- Settles O37: HL is written with the sum, F with `addHlFlags` of the two summands. -/
theorem addToHlResults : Obligations.AddToHlResults := by
  unfold Obligations.AddToHlResults
  intro s p
  obtain ⟨t, he, hsum, hf, hsp, hmem, hframe, hret⟩ := writesPair_of_exec (exec_eq_addHlInstr p s)
  have hhl : t.hl.toNat = (s.hl.toNat + (s.pair p).toNat) % 65536 := (congrArg BitVec.toNat hsum).trans (BitVec.toNat_add ..)
  exact ⟨hasBytes_addHlInstr p, t, he, hhl, flags_of_packF hf, hsp nofun, hmem, hframe, hret⟩

/-! ### ADD SP,e and LD HL,SP+e (R161, R226) -/

/-- An opcode byte and one immediate byte. -/
theorem hasBytes_of_encode_immediate {i : Instr} {op : Nat} {e : Byte} (h : encode i = [BitVec.ofNat 8 op, e]) :
    HasBytes i [op, e.toNat] := by
  rw [HasBytes, h, List.map_cons, List.map_singleton, BitVec.ofNat_toNat, BitVec.setWidth_eq]

/-- Adding a sign-extended byte adds the signed number it stands for. -/
theorem toNat_add_sext16 (v : Word) (e : Byte) : ((v + sext16 e).toNat : Int) = ((v.toNat : Int) + e.toInt) % 65536 := by
  have he : e.toInt = (sext16 e).toInt := (BitVec.toInt_signExtend_of_le (by decide)).symm
  rw [he, BitVec.toInt_eq_toNat_cond, BitVec.toNat_add]
  split <;> omega

/-- The low byte of SP has SP's low nibble and is SP modulo 256. -/
theorem addSpFlags_eq (sp : Word) (e : Byte) :
    addSpFlags sp e
      = packF false false (decide (sp.toNat % 16 + e.toNat % 16 > 15)) (decide (sp.toNat % 256 + e.toNat > 255)) := by
  have hnibble : sp.toNat % 256 % 16 = sp.toNat % 16 := Nat.mod_mod_of_dvd _ (by decide)
  rw [addSpFlags, halfAdd8, carryAdd8, toNat_lo8, hnibble]
  rfl

/-- Settles O38: both write SP plus the displacement to a pair, SP itself or HL, and F with `addSpFlags`. -/
theorem stackDisplacementResults : Obligations.StackDisplacementResults := by
  unfold Obligations.StackDisplacementResults
  intro s e
  constructor
  · have hpair : exec (.add_SP_e e) s
        = .next (retireWith 2 16 (State.setPair { s with f := addSpFlags s.sp e } .sp (s.sp + sext16 e))) := exec_eq_add_SP_e e s
    obtain ⟨t, he, hsum, hf, -, hmem, hframe, hret⟩ := writesPair_of_exec hpair
    have hsp : t.sp = s.sp + sext16 e := hsum
    exact ⟨hasBytes_of_encode_immediate rfl, t, he, hsp ▸ toNat_add_sext16 .., flags_of_packF (hf.trans (addSpFlags_eq ..)), hmem,
      hframe, hret⟩
  · obtain ⟨t, he, hsum, hf, hsp, hmem, hframe, hret⟩ := writesPair_of_exec (exec_eq_ld_HL_SPe e s)
    have hhl : t.hl = s.sp + sext16 e := hsum
    exact ⟨hasBytes_of_encode_immediate rfl, t, he, hhl ▸ toNat_add_sext16 .., flags_of_packF (hf.trans (addSpFlags_eq ..)),
      hsp nofun, hmem, hframe, hret⟩

/-! ### INC rr and DEC rr (R162, R163) -/

theorem hasBytes_incPairInstr (p : Pair) : HasBytes (incPairInstr p) [0x03 + 16 * pairCode p] := by cases p <;> rfl

theorem hasBytes_decPairInstr (p : Pair) : HasBytes (decPairInstr p) [0x0B + 16 * pairCode p] := by cases p <;> rfl

/-- Subtracting 1 modulo 65536 is adding 65535. -/
theorem toNat_sub_one (v : Word) : (v - 1).toNat = (v.toNat + 65535) % 65536 := by
  rw [BitVec.toNat_sub, Nat.add_comm]
  rfl

/-- Settles O39: both write the pair alone, so F is the old F. -/
theorem incDecPairResults : Obligations.IncDecPairResults := by
  unfold Obligations.IncDecPairResults
  intro s p
  constructor
  · obtain ⟨t, he, hv, hrest⟩ := writesPair_of_exec (w := s.f) (exec_eq_incPairInstr p s)
    exact ⟨hasBytes_incPairInstr p, t, he, (congrArg BitVec.toNat hv).trans (BitVec.toNat_add ..), hrest⟩
  · obtain ⟨t, he, hv, hrest⟩ := writesPair_of_exec (w := s.f) (exec_eq_decPairInstr p s)
    exact ⟨hasBytes_decPairInstr p, t, he, (congrArg BitVec.toNat hv).trans (toNat_sub_one _), hrest⟩

end Sys2Proof.Machine
end

section
/-! SUPPORT. Rotates, shifts and the bit instructions (42_rotate_shift_bit.md) in the words of the claims: what an instruction that writes
one register or one byte of memory and keeps F leaves, a byte's shifts and bits as numbers, and the value and flags of each operation. -/
namespace Sys2Proof.Machine

open Sys2Proof.Claims

/-! ### An instruction that keeps F -/

/-- An instruction that ends with one register written and retires (R270), in the words of the claims. -/
theorem writesRegKeepsF_of_exec {i : Instr} {s : State} {r : Reg8} {v : Byte} {len cost : Nat}
    (he : exec i s = .next (retireWith len cost (s.setReg r v))) :
    ∃ t, exec i s = .next t ∧ t.reg r = v ∧ t.f = s.f ∧ t.sp = s.sp ∧ MemSame s t ∧ Frame [r] s t ∧ Retired len cost s t := by
  obtain ⟨hsp, hmem, hframe⟩ := onlyWrites_setReg r v s.f len cost s
  refine ⟨_, he, ?_, ?_, hsp, hmem, hframe, ?_, ?_⟩
  · rw [retireWith_reg, setReg_reg, if_pos rfl]
  · rw [retireWith_f, setReg_f]
  · rw [retireWith_pc, setReg_pc]
  · rw [retireWith_cycles, setReg_cycles]

/-- An instruction that ends with one byte stored and retires, in the words of the claims. -/
theorem storesByteKeepsF_of_exec {i : Instr} {s : State} {x : Word} {v : Byte} {len cost : Nat}
    (he : exec i s = .next (retireWith len cost (memWrite config x v s))) :
    ∃ t, exec i s = .next t ∧ Stored x v s t ∧ t.f = s.f ∧ t.sp = s.sp ∧ Frame [] s t ∧ Retired len cost s t :=
  ⟨_, he, stored_memWrite x v s, rfl, rfl, frame_memWrite x v s.f len cost s, rfl, rfl⟩

/-! ### Shifts and bits of a byte as numbers -/

theorem getLsbD_eq_decide (v : Byte) (i : Nat) : v.getLsbD i = decide (v.toNat / 2 ^ i % 2 = 1) :=
  (BitVec.testBit_toNat v).symm.trans Nat.testBit_eq_decide_div_mod_eq

theorem toNat_shiftRight (v : Byte) (i : Nat) : (v >>> i).toNat = v.toNat / 2 ^ i := by
  rw [BitVec.toNat_ushiftRight, Nat.shiftRight_eq_div_pow]

/-- A left shift by `i` keeps the lower `8 - i` bits. -/
theorem toNat_shiftLeft (v : Byte) {i : Nat} (hi : i ≤ 8) : (v <<< i).toNat = 2 ^ i * (v.toNat % 2 ^ (8 - i)) := by
  rw [BitVec.toNat_shiftLeft, Nat.shiftLeft_eq, Nat.mul_comm, ← Nat.mul_mod_mul_left, ← Nat.pow_add, Nat.add_sub_cancel' hi]

/-- What fits in the bits a left shift cleared is added by an OR. -/
theorem toNat_shiftLeft_or (v w : Byte) {i : Nat} (hi : i ≤ 8) (hw : w.toNat < 2 ^ i) :
    ((v <<< i) ||| w).toNat = 2 ^ i * (v.toNat % 2 ^ (8 - i)) + w.toNat := by
  rw [BitVec.toNat_or, toNat_shiftLeft v hi, Nat.two_pow_add_eq_or_of_lt hw]

/-- The same with the shifted byte second, as the right rotates have it. -/
theorem toNat_or_shiftLeft (v w : Byte) {i : Nat} (hi : i ≤ 8) (hw : w.toNat < 2 ^ i) :
    (w ||| (v <<< i)).toNat = w.toNat + 2 ^ i * (v.toNat % 2 ^ (8 - i)) := by
  rw [BitVec.or_comm, toNat_shiftLeft_or v w hi hw, Nat.add_comm]

/-- Bit 7 alone, as SRA keeps it. -/
theorem and_signBit (v : Byte) : v &&& 0x80#8 = (v >>> 7) <<< 7 :=
  (BitVec.shiftLeft_ushiftRight (x := v) (n := 7)).symm

/-! ### The rotates and shifts (R171 to R190) -/

theorem rotValue_toNat (o : RotOp) (v : Byte) (carry : Bool) : (rotValue o v carry).toNat = rotNumber o v.toNat carry.toNat := by
  have hv := v.isLt
  have hc := Bool.toNat_le carry
  have hbit := toNat_bitByte carry
  have h1 := toNat_shiftRight v 1
  have h4 := toNat_shiftRight v 4
  have h7 := toNat_shiftRight v 7
  cases o with
  | rlc | rl | swap =>
    rw [rotValue, toNat_shiftLeft_or _ _ (by decide) (by omega), rotNumber]
    omega
  | rrc | rr =>
    rw [rotValue, toNat_or_shiftLeft _ _ (by decide) (by omega), rotNumber]
    omega
  | sla =>
    rw [rotValue, toNat_shiftLeft _ (by decide), rotNumber]
    omega
  | sra =>
    rw [rotValue, and_signBit, toNat_or_shiftLeft _ _ (by decide) (by omega), rotNumber]
    omega
  | srl => exact h1

/-- The carry is bit 7 for the left moves, bit 0 for the right moves. -/
theorem rotCarry_eq_rotOut (o : RotOp) (v : Byte) : rotCarry o v = rotOut o v.toNat := by
  have hv := v.isLt
  cases o with
  | rlc | rl | sla =>
    rw [rotCarry, rotOut, getLsbD_eq_decide, decide_eq_decide]
    omega
  | rrc | rr | sra | srl =>
    rw [rotCarry, rotOut, getLsbD_eq_decide, Nat.pow_zero, Nat.div_one]
  | swap => rfl

theorem rot8_flags (o : RotOp) (v : Byte) (carry : Bool) :
    (rot8 o v carry).flags
      = packF (decide (rotNumber o v.toNat carry.toNat = 0)) false false (rotOut o v.toNat) := by
  rw [← rotValue_toNat, ← beq_zero_eq, ← rotCarry_eq_rotOut]
  rfl

/-- R198: Z is clear whatever the value (D4). -/
theorem rotA8_flags (o : RotOp) (v : Byte) (carry : Bool) :
    (rotA8 o v carry).flags = packF false false false (rotOut o v.toNat) :=
  congrArg (packF false false false) (rotCarry_eq_rotOut o v)

theorem rot8_value_eq_ofNat (o : RotOp) (v : Byte) (carry : Bool) :
    (rot8 o v carry).value = BitVec.ofNat 8 (rotNumber o v.toNat carry.toNat) := by
  rw [← rotValue_toNat, BitVec.ofNat_toNat, BitVec.setWidth_eq]
  rfl

theorem hasBytes_rotInstr (o : RotOp) (x : Operand8) : HasBytes (rotInstr o x) [0xCB, 8 * rotCode o + code8 x] := by
  rcases x with (_ | _ | _ | _ | _ | _ | _) | _ <;> cases o <;> rfl

/-- The four accumulator rotates are `rotA8` of their operation. -/
theorem exec_accumulatorRotate {i : Instr} {o : RotOp} {op : Nat} (s : State)
    (h : (i, o, op) ∈ [(Instr.rlca, RotOp.rlc, 0x07), (.rrca, .rrc, 0x0F), (.rla, .rl, 0x17), (.rra, .rr, 0x1F)]) :
    HasBytes i [op] ∧ exec i s = .next (retireWith 1 4
      (State.setReg { s with f := (rotA8 o s.a s.flagC).flags } .a (rotA8 o s.a s.flagC).value)) := by
  simp only [List.mem_cons, List.not_mem_nil, or_false, Prod.mk.injEq] at h
  rcases h with ⟨rfl, rfl, rfl⟩ | ⟨rfl, rfl, rfl⟩ | ⟨rfl, rfl, rfl⟩ | ⟨rfl, rfl, rfl⟩
  · exact ⟨rfl, exec_eq_rlca s⟩
  · exact ⟨rfl, exec_eq_rrca s⟩
  · exact ⟨rfl, exec_eq_rla s⟩
  · exact ⟨rfl, exec_eq_rra s⟩

/-- Settles O40: A ends as `rotA8` of itself. -/
theorem accumulatorRotateResults : Obligations.AccumulatorRotateResults := by
  unfold Obligations.AccumulatorRotateResults
  intro s i o op h
  obtain ⟨hbytes, hexec⟩ := exec_accumulatorRotate s h
  exact ⟨hbytes, writesReg_of_exec hexec (rotValue_toNat ..) (rotA8_flags ..)⟩

/-- Settles O41: the register ends as `rot8` of itself. -/
theorem rotateRegisterResults : Obligations.RotateRegisterResults := by
  unfold Obligations.RotateRegisterResults
  intro s o r
  exact ⟨hasBytes_rotInstr o _, writesReg_of_exec (exec_eq_rotInstr_reg o r s) (rotValue_toNat ..) (rot8_flags ..)⟩

/-- Settles O42: the byte at HL is stored as `rot8` of itself, with the flags of that value also at the divider. -/
theorem rotateMemoryResults : Obligations.RotateMemoryResults := by
  unfold Obligations.RotateMemoryResults
  intro s o
  exact ⟨hasBytes_rotInstr o .atHL,
    storesByte_of_exec (exec_eq_rotInstr_atHL o s) (rot8_value_eq_ofNat ..) (rot8_flags ..)⟩

/-! ### BIT (R191, R192) -/

theorem bitFlags_eq (i : Nat) (v : Byte) (carry : Bool) :
    bitFlags i v carry = packF (decide (v.toNat / 2 ^ i % 2 = 0)) false true carry := by
  rw [bitFlags, getLsbD_eq_decide, ← decide_not, decide_eq_decide.2 Nat.mod_two_ne_one]

theorem hasBytes_bitInstr (k : Code3) (x : Operand8) : HasBytes (bitInstr k x) [0xCB, 0x40 + 8 * k.index + code8 x] := by
  rcases x with (_ | _ | _ | _ | _ | _ | _) | _ <;> cases k <;> rfl

theorem exec_bitInstr (k : Code3) (x : Operand8) (s : State) :
    exec (bitInstr k x) s
      = .next (retireWith 2 (if x = .atHL then 12 else 8) { s with f := bitFlags k.index (valueOf x s) s.flagC }) := by
  cases x with
  | reg r => exact exec_eq_bitInstr_reg k r s
  | atHL => exact exec_eq_bitInstr_atHL k s

/-- Settles O43: F alone is written, with `bitFlags` of the operand's value. -/
theorem testBitResults : Obligations.TestBitResults := by
  unfold Obligations.TestBitResults
  intro s k x
  have hexec := exec_bitInstr k x s
  rw [bitFlags_eq] at hexec
  exact ⟨hasBytes_bitInstr k x, writesFlags_of_exec hexec⟩

/-! ### RES and SET (R193 to R196) -/

theorem hasBytes_resInstr_reg (k : Code3) (r : Reg8) :
    HasBytes (resInstr k (.reg r)) [0xCB, 0x80 + 8 * k.index + code8 (.reg r)] := by
  cases r <;> cases k <;> rfl

theorem hasBytes_setInstr_reg (k : Code3) (r : Reg8) :
    HasBytes (setInstr k (.reg r)) [0xCB, 0xC0 + 8 * k.index + code8 (.reg r)] := by
  cases r <;> cases k <;> rfl

/-- The byte at HL has operand code 6 (R95). -/
theorem hasBytes_resInstr_atHL (k : Code3) : HasBytes (resInstr k .atHL) [0xCB, 0x86 + 8 * k.index] := by cases k <;> rfl

theorem hasBytes_setInstr_atHL (k : Code3) : HasBytes (setInstr k .atHL) [0xCB, 0xC6 + 8 * k.index] := by cases k <;> rfl

theorem code3_index_lt (k : Code3) : k.index < 8 := by cases k <;> decide

/-- Settles O44: the register ends as `clearBit8` or `setBit8` of itself, and nothing else is written. -/
theorem resSetRegisterResults : Obligations.ResSetRegisterResults := by
  unfold Obligations.ResSetRegisterResults
  intro s k r
  constructor
  · obtain ⟨t, he, hv, hrest⟩ := writesRegKeepsF_of_exec (exec_eq_resInstr_reg k r s)
    exact ⟨hasBytes_resInstr_reg k r, t, he, fun j => hv ▸ getLsbD_clearBit8 _ _ j, hrest⟩
  · obtain ⟨t, he, hv, hrest⟩ := writesRegKeepsF_of_exec (exec_eq_setInstr_reg k r s)
    exact ⟨hasBytes_setInstr_reg k r, t, he, fun j => hv ▸ getLsbD_setBit8 _ _ j (code3_index_lt k), hrest⟩

/-- Settles O45: the byte at HL is stored as `clearBit8` or `setBit8` of itself, and nothing else is written. -/
theorem resSetMemoryResults : Obligations.ResSetMemoryResults := by
  unfold Obligations.ResSetMemoryResults
  intro s k
  constructor
  · obtain ⟨t, he, hrest⟩ := storesByteKeepsF_of_exec (exec_eq_resInstr_atHL k s)
    exact ⟨hasBytes_resInstr_atHL k, t, _, he, getLsbD_clearBit8 _ _, hrest⟩
  · obtain ⟨t, he, hrest⟩ := storesByteKeepsF_of_exec (exec_eq_setInstr_atHL k s)
    exact ⟨hasBytes_setInstr_atHL k, t, _, he, fun j => getLsbD_setBit8 _ _ j (code3_index_lt k), hrest⟩

end Sys2Proof.Machine
end

section
/-! SUPPORT. Control transfer (43_control.md) in the words of the claims: the words and targets of a transfer, the bytes of the forms that
carry an address, what a transfer of control leaves, the conditional forms, and what every instruction costs. -/
namespace Sys2Proof.Machine

open Sys2Proof.Claims

/-! ### Words and targets -/

/-- Two bytes side by side are the number the claims write for them (R22). -/
theorem cat16_eq_word (x y : Byte) : cat16 x y = word x y := by
  rw [word, ← toNat_cat16, BitVec.ofNat_toNat, BitVec.setWidth_eq]

/-- The word on top of the stack (R69). -/
theorem stackTop_eq_topWord (s : State) : stackTop s = topWord s := cat16_eq_word _ _

/-- The relative target (R204): the sum modulo 65536 is the sum of the integers taken modulo 65536. -/
theorem relTarget_eq_jumpTarget (e : Byte) (s : State) : relTarget e s = jumpTarget s e := by
  rw [jumpTarget, BitVec.ofInt_add, BitVec.ofInt_add, BitVec.ofInt_natCast, BitVec.ofNat_toNat, BitVec.setWidth_eq]
  rfl

/-- What a condition tests (R200). -/
theorem cond_eq_holds (s : State) (cc : Cond) : s.cond cc = holds cc s := by
  cases cc <;> rfl

/-! ### Bytes -/

/-- An opcode byte and a 16-bit operand, its low byte first (R66, R98). -/
theorem hasBytes_of_encode_operand16 {i : Instr} {op : Nat} {nn : Word} (h : encode i = [BitVec.ofNat 8 op, lo8 nn, hi8 nn]) :
    HasBytes i [op, nn.toNat % 256, nn.toNat / 256] := by
  rw [HasBytes, h, lo8_eq_ofNat, hi8_eq_ofNat]
  rfl

theorem encode_jumpIfInstr (nn : Word) (cc : Cond) :
    encode (jumpIfInstr nn cc) = [BitVec.ofNat 8 (0xC2 + 8 * condCode cc), lo8 nn, hi8 nn] := by cases cc <;> rfl

theorem encode_callIfInstr (nn : Word) (cc : Cond) :
    encode (callIfInstr nn cc) = [BitVec.ofNat 8 (0xC4 + 8 * condCode cc), lo8 nn, hi8 nn] := by cases cc <;> rfl

theorem encode_jumpRelIfInstr (e : Byte) (cc : Cond) :
    encode (jumpRelIfInstr e cc) = [BitVec.ofNat 8 (0x20 + 8 * condCode cc), e] := by cases cc <;> rfl

theorem hasBytes_retIfInstr (cc : Cond) : HasBytes (retIfInstr cc) [0xC0 + 8 * condCode cc] := by cases cc <;> rfl

theorem hasBytes_rstInstr (y : Code3) : HasBytes (rstInstr y) [0xC7 + 8 * y.index] := by cases y <;> rfl

/-! ### What a transfer of control leaves -/

/-- A transfer of control writes PC and the cycle counter alone, so it leaves what came before it as it was. -/
theorem frame_transfer {rs : List Reg8} {s u : State} (cost : Nat) (x : Word) (h : Frame rs s u) : Frame rs s (transfer cost x u) := by
  obtain ⟨hreg, hrest⟩ := h
  exact ⟨fun r hr => (transfer_reg cost x u r).trans (hreg r hr), hrest⟩

theorem frame_self (s : State) : Frame [] s s := ⟨fun _ _ => rfl, rfl, rfl, rfl, rfl, rfl⟩

theorem frame_push16 (v : Word) (s : State) : Frame [] s (push16 config v s) :=
  ⟨fun r _ => push16_reg config v s r, rfl, rfl, rfl, rfl, rfl⟩

theorem frame_dropTop (s : State) : Frame [] s (dropTop s) :=
  ⟨fun r _ => dropTop_reg s r, rfl, rfl, rfl, rfl, rfl⟩

/-- A push before a transfer of control (CALL, RST). -/
theorem pushed_transfer (v : Word) (cost : Nat) (x : Word) (s : State) : Pushed v s (transfer cost x (push16 config v s)) :=
  pushed_push16 v s

/-! ### Jumps (R201 to R205) -/

/-- Nothing but PC and the cycle counter changes. -/
def OnlyMovesPc (s t : State) : Prop := t.f = s.f ∧ OnlyWrites [] s t

theorem onlyMovesPc_transfer (cost : Nat) (x : Word) (s : State) : OnlyMovesPc s (transfer cost x s) :=
  ⟨rfl, rfl, fun _ => rfl, frame_transfer cost x (frame_self s)⟩

/-- An instruction that ends as a transfer and nothing else, in the words of the claims. -/
theorem went_of_exec {i : Instr} {s : State} {cost : Nat} {x : Word} (he : exec i s = .next (transfer cost x s)) :
    ∃ t, exec i s = .next t ∧ Went x cost s t ∧ OnlyMovesPc s t :=
  ⟨_, he, ⟨rfl, rfl⟩, onlyMovesPc_transfer cost x s⟩

/-- A conditional form ends in one of two states: `P` says what it leaves when taken, `Q` when not, `R` what it leaves either way. -/
theorem conditional_of_exec {i : Instr} {cc : Cond} {s t u : State} {P Q R : State → Prop}
    (he : exec i s = .next (if s.cond cc then t else u)) (ht : P t ∧ R t) (hu : Q u ∧ R u) :
    ∃ v, exec i s = .next v ∧ (if holds cc s then P v else Q v) ∧ R v := by
  rw [cond_eq_holds] at he
  cases hc : holds cc s with
  | true => exact ⟨t, by rw [he, hc]; rfl, ht⟩
  | false => exact ⟨u, by rw [he, hc]; rfl, hu⟩

/-- Settles O55: each jump is a transfer that leaves everything else, and so is one not taken, past the instruction. -/
theorem jumpResults : Obligations.JumpResults := by
  unfold Obligations.JumpResults
  intro s nn e cc
  have hhl : s.hl = word s.h s.l := cat16_eq_word s.h s.l
  have hrel := relTarget_eq_jumpTarget e s
  refine ⟨⟨hasBytes_of_encode_operand16 rfl, went_of_exec (exec_eq_jp_nn nn s)⟩,
    ⟨rfl, went_of_exec (hhl ▸ exec_eq_jp_HL s)⟩,
    ⟨hasBytes_of_encode_immediate rfl, went_of_exec (hrel ▸ exec_eq_jr_e e s)⟩,
    ⟨hasBytes_of_encode_operand16 (encode_jumpIfInstr nn cc), conditional_of_exec (exec_eq_jumpIfInstr nn cc s) ?_ ?_⟩,
    hasBytes_of_encode_immediate (encode_jumpRelIfInstr e cc), conditional_of_exec (exec_eq_jumpRelIfInstr e cc s) ?_ ?_⟩
  · exact ⟨⟨rfl, rfl⟩, onlyMovesPc_transfer 16 nn s⟩
  · exact ⟨⟨rfl, rfl⟩, onlyMovesPc_transfer 12 (nextPc 3 s) s⟩
  · exact ⟨⟨hrel, rfl⟩, onlyMovesPc_transfer 12 (relTarget e s) s⟩
  · exact ⟨⟨rfl, rfl⟩, onlyMovesPc_transfer 8 (nextPc 2 s) s⟩

/-! ### Calls and restarts (R206, R207, R211) -/

/-- Settles O56: taken, a push of the address after the instruction and then a transfer; not taken, a transfer past it. -/
theorem callAndRestartResults : Obligations.CallAndRestartResults := by
  unfold Obligations.CallAndRestartResults
  intro s nn cc y
  have hpush (v : Word) (cost : Nat) (x : Word) : Frame [] s (transfer cost x (push16 config v s)) :=
    frame_transfer cost x (frame_push16 v s)
  refine ⟨⟨hasBytes_of_encode_operand16 rfl, _, exec_eq_call_nn nn s, pushed_transfer .., ⟨rfl, rfl⟩, rfl, hpush ..⟩,
    ⟨hasBytes_of_encode_operand16 (encode_callIfInstr nn cc), conditional_of_exec (exec_eq_callIfInstr nn cc s) ?_ ?_⟩,
    hasBytes_rstInstr y, _, exec_eq_rstInstr y s, pushed_transfer .., ⟨rfl, rfl⟩, rfl, hpush ..⟩
  · exact ⟨⟨pushed_transfer .., rfl, rfl⟩, rfl, hpush ..⟩
  · exact ⟨⟨rfl, fun _ => rfl, rfl, rfl⟩, rfl, frame_transfer 12 (nextPc 3 s) (frame_self s)⟩

/-! ### Returns (R208 to R210) -/

/-- RETI is RET from the state with the gate on. -/
theorem returnFromInterrupt_eq (cost : Nat) (s : State) :
    returnFromInterrupt cost s = transfer cost (stackTop s) (dropTop { s with ime := true }) := rfl

/-- Settles O57: taken, a transfer to the word on top of the stack, which is dropped; not taken, a transfer past the instruction. -/
theorem returnResults : Obligations.ReturnResults := by
  unfold Obligations.ReturnResults
  intro s cc
  have htop := stackTop_eq_topWord s
  have hdrop (cost : Nat) (u : State) : Frame [] u (transfer cost (stackTop s) (dropTop u)) :=
    frame_transfer cost _ (frame_dropTop u)
  refine ⟨⟨rfl, _, exec_eq_ret s, ⟨htop, rfl⟩, rfl, rfl, fun _ => rfl, hdrop 16 s⟩,
    ⟨hasBytes_retIfInstr cc, conditional_of_exec (exec_eq_retIfInstr cc s) ?_ ?_⟩,
    rfl, _, exec_eq_reti s, ⟨htop, rfl⟩, rfl, rfl, rfl, fun _ => rfl, ?_⟩
  · exact ⟨⟨⟨htop, rfl⟩, rfl⟩, rfl, fun _ => rfl, hdrop 20 s⟩
  · exact ⟨⟨rfl, rfl, rfl⟩, rfl, fun _ => rfl, frame_transfer 8 (nextPc 1 s) (frame_self s)⟩
  · rw [returnFromInterrupt_eq]
    exact hdrop 16 { s with ime := true }

/-- Settles O9: CALL pushes the address after it, and off the divider that is the word on top for RET. -/
theorem callThenReturnRoundTrips : Obligations.CallThenReturnRoundTrips := by
  unfold Obligations.CallThenReturnRoundTrips
  intro s t nn h1 h2 he
  cases (exec_eq_call_nn nn s).symm.trans he
  have htop : stackTop (push16 config (nextPc 3 s) s) = s.pc + 3 := stackTop_push16_of_ne _ h1 h2
  exact ⟨_, exec_eq_ret _, rfl, htop, dropTop_push16_sp (nextPc 3 s) s⟩

/-! ### Costs (R213, R346) -/

/-- The table gives an INVALID entry the cost that R260 gives it, 4 cycles. -/
theorem cycles_of_isInvalid {i : Instr} (h : isInvalid i = true) (s : State) :
    config.cycles (opcodeOf i) (taken i s) = config.invalidCycles := by
  unfold isInvalid at h
  split at h
  case h_12 => cases h
  all_goals rfl

/-- At the defaults of R7 the cost of an instruction is its entry of the table, INVALID or not. -/
theorem costAt_config (i : Instr) (s : State) : costAt config (opcodeOf i) i s = config.cycles (opcodeOf i) (taken i s) := by
  unfold costAt
  split
  · next h => exact (cycles_of_isInvalid h s).symm
  · rfl

/-- A cost of R346: a multiple of 4 between 4 and 24. -/
abbrev TableCost (n : Nat) : Prop := 4 ≤ n ∧ n ≤ 24 ∧ n % 4 = 0

/-- Every entry of the base page but the marker's, which has no cost of its own. -/
theorem tableCost_base : ∀ (b : Byte) (tk : Bool), b ≠ prefixByte → TableCost (cycleTable (.base b) tk) := by
  decide

/-- The extended page has the costs 8, 12 and 16. -/
theorem tableCost_ext (op2 : Byte) (tk : Bool) : TableCost (cycleTable (.ext op2) tk) := by
  change TableCost (extCycles op2)
  unfold extCycles
  split_ifs <;> decide

/-- The marker is never an instruction's opcode (R93). -/
theorem tableCost_opcodeOf (i : Instr) (tk : Bool) : TableCost (config.cycles (opcodeOf i) tk) := by
  rw [opcodeOf_eq_bytes]
  split
  · exact tableCost_ext _ tk
  · next hb => exact tableCost_base _ tk hb

/-- Settles O20: what R213 and R260 add at any parameters (`execWith_costs`), read at the defaults. -/
theorem costsFollowTheTable : Obligations.CostsFollowTheTable := by
  unfold Obligations.CostsFollowTheTable
  intro i s t _ he
  obtain ⟨t', he', hcost⟩ := execWith_costs config i s
  rw [execWith_config] at he'
  cases he'.symm.trans he
  rw [costAt_config] at hcost
  exact ⟨hcost, tableCost_opcodeOf i (taken i s)⟩

end Sys2Proof.Machine
end

section
/-! SUPPORT. The stack and the 16-bit loads (44_stack_load16.md) in the words of the claims: what a store of SP and a pop leave, and the
bytes of the pair catalogs. -/
namespace Sys2Proof.Machine

open Sys2Proof.Claims

/-! ### LD rr,nn and LD SP,HL (R223, R225) -/

theorem encode_loadPairInstr (nn : Word) (p : Pair) :
    encode (loadPairInstr nn p) = [BitVec.ofNat 8 (0x01 + 16 * pairCode p), lo8 nn, hi8 nn] := by cases p <;> rfl

/-- Settles O51: both write one pair alone, LD SP,HL the pair SP with the word that HL is. -/
theorem loadPairResults : Obligations.LoadPairResults := by
  unfold Obligations.LoadPairResults
  intro s p nn
  constructor
  · exact ⟨hasBytes_of_encode_operand16 (encode_loadPairInstr nn p), writesPair_of_exec (w := s.f) (exec_eq_loadPairInstr nn p s)⟩
  · obtain ⟨t, he, hsp, hf, -, hmem, hframe, hret⟩ := writesPair_of_exec (p := .sp) (w := s.f) (exec_eq_ld_SP_HL s)
    exact ⟨rfl, t, he, hsp.trans (cat16_eq_word s.h s.l), hf, hmem, hframe, hret⟩

/-! ### LD (nn),SP (R224) -/

theorem memWrite16_rd_low (x v : Word) (s : State) :
    (memWrite16 config x v s).rd x = if x = config.addrDiv then 0 else BitVec.ofNat 8 (v.toNat % 256) := by
  rw [memWrite16_rd, if_neg (succ_ne_self x).symm, if_pos rfl, lo8_eq_ofNat]

theorem memWrite16_rd_high (x v : Word) (s : State) :
    (memWrite16 config x v s).rd (x + 1) = if x + 1 = config.addrDiv then 0 else BitVec.ofNat 8 (v.toNat / 256) := by
  rw [memWrite16_rd, if_pos rfl, hi8_eq_ofNat]

theorem memWrite16_rd_of_ne {x y : Word} (v : Word) (s : State) (h0 : y ≠ x) (h1 : y ≠ x + 1) :
    (memWrite16 config x v s).rd y = s.rd y := by
  rw [memWrite16_rd, if_neg h1, if_neg h0]

theorem frame_memWrite16 (x v : Word) (s : State) : Frame [] s (memWrite16 config x v s) :=
  ⟨fun r _ => memWrite16_reg config x v s r, rfl, rfl, rfl, rfl, rfl⟩

/-- Settles O52: the instruction is the 16-bit store of SP at nn. -/
theorem storeStackPointerResult : Obligations.StoreStackPointerResult := by
  unfold Obligations.StoreStackPointerResult
  intro s nn
  exact ⟨hasBytes_of_encode_operand16 rfl, _, exec_eq_ld_atnn_SP nn s, memWrite16_rd_low nn s.sp s, memWrite16_rd_high nn s.sp s,
    fun _ => memWrite16_rd_of_ne s.sp s, rfl, rfl, frame_transfer 20 _ (frame_memWrite16 nn s.sp s), rfl, rfl⟩

/-! ### PUSH (R220) -/

theorem hasBytes_pushInstr (p : StackPair) : HasBytes (pushInstr p) [0xC5 + 16 * stackPairCode p] := by cases p <;> rfl

/-- Settles O53: the word pushed is the pair, its high register the high byte (`cat16_eq_word`). -/
theorem pushResults : Obligations.PushResults := by
  unfold Obligations.PushResults
  intro s p
  refine ⟨hasBytes_pushInstr p, _, exec_eq_pushInstr p s, ?_, rfl, frame_transfer 16 _ (frame_push16 (s.stackPair p) s), rfl, rfl⟩
  have hpush : Pushed (s.stackPair p) s (retireWith 1 16 (push16 config (s.stackPair p) s)) := pushed_transfer ..
  simp only [← cat16_eq_word]
  cases p <;> exact hpush

/-! ### POP (R221, R222) -/

theorem hasBytes_popInstr (p : StackPair) : HasBytes (popInstr p) [0xC1 + 16 * stackPairCode p] := by cases p <;> rfl

/-- The general registers a stack pair is made of; F, the low half of AF, is not one of them (R95). -/
def stackHalves : StackPair → List Reg8
  | .bc => [.b, .c]
  | .de => [.d, .e]
  | .hl => [.h, .l]
  | .af => [.a]

theorem setStackPair_reg_of_notMem (s : State) (p : StackPair) (v : Word) (r : Reg8) :
    r ∉ stackHalves p → (s.setStackPair p v).reg r = s.reg r := by
  cases p <;> cases r <;> simp [stackHalves, State.setStackPair, State.reg]

theorem frame_setStackPair (p : StackPair) (v : Word) (s : State) : Frame (stackHalves p) s (s.setStackPair p v) :=
  ⟨setStackPair_reg_of_notMem s p v, setStackPair_ime .., setStackPair_run .., setStackPair_divAcc .., setStackPair_timaAcc ..,
    setStackPair_lcdAcc ..⟩

/-- A pop changes no general register but those of its pair. -/
theorem frame_pop (p : StackPair) (v : Word) (len cost : Nat) (s : State) :
    Frame (stackHalves p) s (retireWith len cost ((dropTop s).setStackPair p v)) :=
  frame_transfer cost _ (frame_setStackPair p v (dropTop s))

/-- The mask of POP AF (D10) keeps the four flag bits of R24. -/
theorem and_F0_eq_packF : ∀ v : Byte, v &&& 0xF0 = packF (v.getLsbD 7) (v.getLsbD 6) (v.getLsbD 5) (v.getLsbD 4) := by
  decide

/-- Settles O54: the pair is written with the word on top of the stack, whose halves are the two bytes read. -/
theorem popResults : Obligations.PopResults := by
  unfold Obligations.PopResults
  intro s p hi lo
  have hhi : hi8 (stackTop s) = hi := hi8_cat16 hi lo
  have hlo : lo8 (stackTop s) = lo := lo8_cat16 hi lo
  have hframe := frame_pop p (stackTop s) 1 12 s
  refine ⟨hasBytes_popInstr p, _, exec_eq_popInstr p s, ?_, setStackPair_sp .., fun x => setStackPair_rd .., ?_, ?_⟩
  · cases p with
    | bc | de | hl => exact ⟨hhi, hlo, rfl, hframe⟩
    | af => exact ⟨hhi, flags_of_packF (hlo ▸ and_F0_eq_packF _), hframe⟩
  · rw [retireWith_pc, setStackPair_pc, dropTop_pc]
  · rw [retireWith_cycles, setStackPair_cycles, dropTop_cycles]

end Sys2Proof.Machine
end

section
/-! SUPPORT. The 8-bit loads and stores (45_load8.md) in the words of the claims: the bytes of the load catalogs, the high-page address,
and what the forms that also move HL leave. -/
namespace Sys2Proof.Machine

open Sys2Proof.Claims

/-! ### LD r,r', LD r,n and the forms at HL (R230 to R234) -/

/-- The two operand codes side by side; code 6 for both is HALT (R100). -/
theorem hasBytes_loadInstr (x y : Operand8) : HasBytes (loadInstr x y) [0x40 + 8 * code8 x + code8 y] := by
  rcases x with (_ | _ | _ | _ | _ | _ | _) | _ <;> rcases y with (_ | _ | _ | _ | _ | _ | _) | _ <;> rfl

/-- With the byte at HL, of operand code 6 (R95), for the source. -/
theorem hasBytes_loadInstr_atHL (x : Operand8) : HasBytes (loadInstr x .atHL) [0x46 + 8 * code8 x] := by
  have hop : 0x46 + 8 * code8 x = 0x40 + 8 * code8 x + code8 .atHL := Nat.add_right_comm 0x40 6 (8 * code8 x)
  exact hop ▸ hasBytes_loadInstr x .atHL

theorem encode_loadImmInstr (n : Byte) (x : Operand8) :
    encode (loadImmInstr n x) = [BitVec.ofNat 8 (0x06 + 8 * code8 x), n] := by
  rcases x with (_ | _ | _ | _ | _ | _ | _) | _ <;> rfl

/-- Settles O46: each form writes the destination alone, with the source as it was before the write. -/
theorem loadRegisterResults : Obligations.LoadRegisterResults := by
  unfold Obligations.LoadRegisterResults
  intro s r r' n
  exact ⟨⟨hasBytes_loadInstr _ _, writesRegKeepsF_of_exec (exec_eq_loadInstr_reg_reg r r' s)⟩,
    ⟨hasBytes_of_encode_immediate (encode_loadImmInstr n _), writesRegKeepsF_of_exec (exec_eq_loadImmInstr_reg n r s)⟩,
    hasBytes_loadInstr_atHL _, writesRegKeepsF_of_exec (exec_eq_loadInstr_reg_atHL r s)⟩

/-- Settles O47: both forms are the engine's store at HL. -/
theorem storeThroughHlResults : Obligations.StoreThroughHlResults := by
  unfold Obligations.StoreThroughHlResults
  intro s r n
  exact ⟨⟨hasBytes_loadInstr .atHL _, storesByteKeepsF_of_exec (exec_eq_loadInstr_atHL_reg r s)⟩,
    hasBytes_of_encode_immediate rfl, storesByteKeepsF_of_exec (exec_eq_loadImmInstr_atHL n s)⟩

/-! ### The loads and stores of A (R235 to R244) -/

/-- The address of the high-page forms (R241 to R244). -/
theorem highPageAddr_eq_ofNat (n : Byte) : highPageAddr config n = BitVec.ofNat 16 (0xFF00 + n.toNat) := by
  rw [BitVec.ofNat_add, BitVec.ofNat_toNat]
  rfl

/-- Settles O48: each of the five is a write of A alone, with the byte at its address. -/
theorem loadAccumulatorResults : Obligations.LoadAccumulatorResults := by
  unfold Obligations.LoadAccumulatorResults
  intro s nn n i bs addr len cost h
  suffices hload : HasBytes i bs ∧ exec i s = .next (retireWith len cost (s.setReg .a (s.rd addr))) by
    obtain ⟨hbytes, hexec⟩ := hload
    exact ⟨hbytes, writesRegKeepsF_of_exec hexec⟩
  simp only [List.mem_cons, List.not_mem_nil, or_false, Prod.mk.injEq, ← highPageAddr_eq_ofNat] at h
  rcases h with ⟨rfl, rfl, rfl, rfl, rfl⟩ | ⟨rfl, rfl, rfl, rfl, rfl⟩ | ⟨rfl, rfl, rfl, rfl, rfl⟩ | ⟨rfl, rfl, rfl, rfl, rfl⟩
    | ⟨rfl, rfl, rfl, rfl, rfl⟩
  · exact ⟨rfl, exec_eq_ld_A_atBC s⟩
  · exact ⟨rfl, exec_eq_ld_A_atDE s⟩
  · exact ⟨hasBytes_of_encode_operand16 rfl, exec_eq_ld_A_atnn addr s⟩
  · exact ⟨hasBytes_of_encode_immediate rfl, exec_eq_ldh_A_atn n s⟩
  · exact ⟨rfl, exec_eq_ld_A_atC s⟩

/-- Settles O49: each of the five is the engine's store of A at its address. -/
theorem storeAccumulatorResults : Obligations.StoreAccumulatorResults := by
  unfold Obligations.StoreAccumulatorResults
  intro s nn n i bs addr len cost h
  suffices hstore : HasBytes i bs ∧ exec i s = .next (retireWith len cost (memWrite config addr s.a s)) by
    obtain ⟨hbytes, hexec⟩ := hstore
    exact ⟨hbytes, storesByteKeepsF_of_exec hexec⟩
  simp only [List.mem_cons, List.not_mem_nil, or_false, Prod.mk.injEq, ← highPageAddr_eq_ofNat] at h
  rcases h with ⟨rfl, rfl, rfl, rfl, rfl⟩ | ⟨rfl, rfl, rfl, rfl, rfl⟩ | ⟨rfl, rfl, rfl, rfl, rfl⟩ | ⟨rfl, rfl, rfl, rfl, rfl⟩
    | ⟨rfl, rfl, rfl, rfl, rfl⟩
  · exact ⟨rfl, exec_eq_ld_atBC_A s⟩
  · exact ⟨rfl, exec_eq_ld_atDE_A s⟩
  · exact ⟨hasBytes_of_encode_operand16 rfl, exec_eq_ld_atnn_A addr s⟩
  · exact ⟨hasBytes_of_encode_immediate rfl, exec_eq_ldh_atn_A n s⟩
  · exact ⟨rfl, exec_eq_ld_atC_A s⟩

/-! ### The forms that move HL (R245 to R248) -/

/-- What two writes in a row may change is what either may. -/
theorem frame_trans {rs rs' : List Reg8} {s u t : State} (h : Frame rs s u) (h' : Frame rs' u t) : Frame (rs ++ rs') s t := by
  obtain ⟨hreg, hime, hrun, hdiv, htima, hlcd⟩ := h
  obtain ⟨hreg', hime', hrun', hdiv', htima', hlcd'⟩ := h'
  refine ⟨fun r hr => ?_, hime'.trans hime, hrun'.trans hrun, hdiv'.trans hdiv, htima'.trans htima, hlcd'.trans hlcd⟩
  obtain ⟨hrs, hrs'⟩ := not_or.1 (List.mem_append.not.1 hr)
  exact (hreg' r hrs').trans (hreg r hrs)

theorem frame_setReg (r : Reg8) (v : Byte) (s : State) : Frame [r] s (s.setReg r v) := by
  refine ⟨fun q hq => ?_, setReg_ime .., setReg_run .., setReg_divAcc .., setReg_timaAcc .., setReg_lcdAcc ..⟩
  rw [setReg_reg, if_neg (List.mem_singleton.not.1 hq)]

theorem frame_store (x : Word) (v : Byte) (s : State) : Frame [] s (memWrite config x v s) :=
  ⟨fun r _ => memWrite_reg config x v s r, rfl, rfl, rfl, rfl, rfl⟩

/-- HL moved by `d`, where 65535 is 1 down. -/
theorem toNat_add_ofNat (v : Word) (d : Nat) : (v + BitVec.ofNat 16 d).toNat = (v.toNat + d) % 65536 := by
  rw [BitVec.toNat_add, BitVec.toNat_ofNat, Nat.add_mod_mod]

/-- The instruction is one byte, and it ends with HL moved by `d` in the state that its access left. -/
def MovesHl (i : Instr) (op d : Nat) (s u : State) : Prop :=
  HasBytes i [op] ∧ exec i s = .next (retireWith 1 8 (u.setPair .hl (s.hl + BitVec.ofNat 16 d)))

theorem movesHl_load {i : Instr} {op d : Nat} (s : State)
    (h : (i, op, d) ∈ [(Instr.ld_A_atHLinc, 0x2A, 1), (.ld_A_atHLdec, 0x3A, 65535)]) :
    MovesHl i op d s (s.setReg .a (s.rd s.hl)) := by
  simp only [List.mem_cons, List.not_mem_nil, or_false, Prod.mk.injEq] at h
  rcases h with ⟨rfl, rfl, rfl⟩ | ⟨rfl, rfl, rfl⟩
  · exact ⟨rfl, exec_eq_ld_A_atHLinc s⟩
  · exact ⟨rfl, exec_eq_ld_A_atHLdec s⟩

theorem movesHl_store {i : Instr} {op d : Nat} (s : State)
    (h : (i, op, d) ∈ [(Instr.ld_atHLinc_A, 0x22, 1), (.ld_atHLdec_A, 0x32, 65535)]) :
    MovesHl i op d s (memWrite config s.hl s.a s) := by
  simp only [List.mem_cons, List.not_mem_nil, or_false, Prod.mk.injEq] at h
  rcases h with ⟨rfl, rfl, rfl⟩ | ⟨rfl, rfl, rfl⟩
  · exact ⟨rfl, exec_eq_ld_atHLinc_A s⟩
  · exact ⟨rfl, exec_eq_ld_atHLdec_A s⟩

/-- The move writes HL alone, so all else is as the access left it. -/
theorem results_of_movesHl {i : Instr} {op d : Nat} {s u : State} (h : MovesHl i op d s u) :
    HasBytes i [op] ∧ ∃ t, exec i s = .next t ∧ t.a = u.a ∧ t.hl.toNat = (s.hl.toNat + d) % 65536 ∧ t.f = u.f ∧ t.sp = u.sp
      ∧ MemSame u t ∧ Frame [.h, .l] u t ∧ Retired 1 8 u t := by
  obtain ⟨hbytes, hexec⟩ := h
  have hhl := congrArg BitVec.toNat (setPair_hl_hl u (s.hl + BitVec.ofNat 16 d))
  exact ⟨hbytes, _, hexec, rfl, hhl.trans (toNat_add_ofNat s.hl d), rfl, rfl, fun _ => rfl, frame_setPair .hl _ 1 8 u, rfl, rfl⟩

/-- Settles O50: the access is a write of A or a store, both with the old HL, and the move leaves what it wrote. -/
theorem hlStepResults : Obligations.HlStepResults := by
  unfold Obligations.HlStepResults
  intro s d
  constructor
  · intro i op h
    obtain ⟨hbytes, t, he, ha, hhl, hf, hsp, hmem, hframe, hret⟩ := results_of_movesHl (movesHl_load s h)
    exact ⟨hbytes, t, he, ha, hhl, hf, hsp, hmem, frame_trans (frame_setReg .a _ s) hframe, hret⟩
  · intro i op h
    obtain ⟨hbytes, t, he, -, hhl, hf, hsp, hmem, hframe, hret⟩ := results_of_movesHl (movesHl_store s h)
    obtain ⟨hself, hother⟩ := stored_memWrite s.hl s.a s
    exact ⟨hbytes, t, he, ⟨(hmem _).trans hself, fun x hx => (hmem x).trans (hother x hx)⟩, hhl, hf, hsp,
      frame_trans (frame_store s.hl s.a s) hframe, hret⟩

end Sys2Proof.Machine
end

section
/-! SUPPORT. System instructions (46_system.md) in the words of the claims: what an instruction does depends on its bytes alone, which
gives the entry of the marker (R261) its meaning, and the bytes of the entries that do only the bookkeeping. -/
namespace Sys2Proof.Machine

open Sys2Proof.Claims

/-! ### PREFIX CB (R261) -/

/-- At any parameters what runs is the bytes, so instructions of the same bytes do the same, the ill-formed term (R105) included. -/
theorem execWith_eq_of_encode_eq (cfg : Config) {i j : Instr} (h : encode i = encode j) (s : State) :
    execWith cfg i s = execWith cfg j s := by
  rw [execWith, h, execWith]

theorem exec_eq_of_encode_eq {i j : Instr} (h : encode i = encode j) (s : State) : exec i s = exec j s := by
  rw [← execWith_config, ← execWith_config]
  exact execWith_eq_of_encode_eq config h s

/-- The entry stands for the two bytes of the extended instruction that its byte selects (R104). -/
theorem encode_prefix_CB (op2 : Byte) : encode (.prefix_CB op2) = encode (decodeExt op2) :=
  (encode_decodeExt op2).symm

/-- Every instruction answers a next state (R272). -/
theorem exec_answers (i : Instr) (s : State) : ∃ t, exec i s = .next t := by
  obtain ⟨t, ht, -⟩ := execWith_costs config i s
  exact ⟨t, (execWith_config i s).symm.trans ht⟩

/-- Settles O59: the entry and the extended instruction have the same bytes. -/
theorem prefixEntryIsTheExtendedInstruction : Obligations.PrefixEntryIsTheExtendedInstruction := by
  unfold Obligations.PrefixEntryIsTheExtendedInstruction
  intro s op2
  obtain ⟨t, ht⟩ := exec_answers (decodeExt op2) s
  exact ⟨t, (exec_eq_of_encode_eq (encode_prefix_CB op2) s).trans ht, ht⟩

/-! ### NOP, INVALID, HALT, STOP, DI and EI (R255 to R260) -/

/-- INVALID 0xD3 to INVALID 0xFD, each with its opcode (R103, R260). -/
def invalidEntries : List (Instr × Nat) :=
  [(.invalid_D3, 0xD3), (.invalid_DB, 0xDB), (.invalid_DD, 0xDD), (.invalid_E3, 0xE3), (.invalid_E4, 0xE4), (.invalid_EB, 0xEB),
    (.invalid_EC, 0xEC), (.invalid_ED, 0xED), (.invalid_F4, 0xF4), (.invalid_FC, 0xFC), (.invalid_FD, 0xFD)]

theorem encode_of_mem_invalidEntries : ∀ p ∈ invalidEntries, encode p.1 = [BitVec.ofNat 8 p.2] := by
  decide

theorem exec_of_mem_invalidEntries {p : Instr × Nat} (h : p ∈ invalidEntries) (s : State) :
    exec p.1 s = .next (retireWith 1 4 s) :=
  exec_eq_invalid p.1 s (List.mem_map_of_mem (f := Prod.fst) h)

/-- Settles O58: each is the bookkeeping of the step (`retireWith`), after the run state or the gate where it writes one. -/
theorem systemResults : Obligations.SystemResults := by
  unfold Obligations.SystemResults
  intro s pad
  refine ⟨fun i op h => ?_, ⟨rfl, exec_eq_halt s⟩, ⟨hasBytes_of_encode_immediate rfl, exec_eq_stop pad s⟩, ⟨rfl, exec_eq_di s⟩,
    rfl, exec_eq_ei s⟩
  rcases List.mem_cons.1 h with hnop | hinv
  · cases hnop
    exact ⟨rfl, exec_eq_nop s⟩
  · exact ⟨encode_of_mem_invalidEntries (i, op) hinv, exec_of_mem_invalidEntries hinv s⟩

end Sys2Proof.Machine
end

section
/-! SUPPORT. The whole step (60_exceptions.md sections 1 and 2): what it fetches, and that it goes on from every state. -/
namespace Sys2Proof.Machine

open Sys2Proof.Claims

/-- No instruction is longer than the three bytes fetched, so what they decode to is the instruction fetched (R92). -/
theorem fetch_of_decodeBytes {s : State} {i : Instr} {rest : List Byte}
    (h : decodeBytes [s.rd s.pc, s.rd (s.pc + 1), s.rd (s.pc + 2)] = .ok (i, rest)) : fetch s = i := by
  have hlen : instrLength (fetch s) ≤ 3 := (instrLength_bounds (fetch s)).2
  cases h.symm.trans (if_pos hlen)
  rfl

/-- Settles O10: the bytes at PC decode to the instruction fetched, and `step_of_exec` says the rest. -/
theorem stepRunsDecodedInstruction : Obligations.StepRunsDecodedInstruction := by
  unfold Obligations.StepRunsDecodedInstruction
  intro s t i rest hrun hdecode hexec
  rw [← fetch_of_decodeBytes hdecode] at hexec
  exact step_of_exec hrun hexec

theorem executeNext_of_not_running {s : State} (h : s.run ≠ .running) : (executeNext s).1 = none := by
  unfold executeNext
  cases hr : s.run with
  | running => exact absurd hr h
  | halted | stopped => rfl

/-- Settles O11: `step_of_not_running`, and the host's operation returns an instruction in the Running state alone. -/
theorem haltedCoreDoesNothing : Obligations.HaltedCoreDoesNothing := by
  unfold Obligations.HaltedCoreDoesNothing
  exact fun s h => ⟨step_of_not_running h, executeNext_of_not_running h⟩

/-- Settles O12: a Running core's instruction answers a next state (`exec_answers`), and any other core's step is the state itself. -/
theorem everyStepAnswersNext : Obligations.EveryStepAnswersNext := by
  unfold Obligations.EveryStepAnswersNext
  intro s
  by_cases hrun : s.run = .running
  · obtain ⟨t, ht⟩ := exec_answers (fetch s) s
    exact ⟨_, step_of_exec hrun ht⟩
  · exact ⟨s, step_of_not_running hrun⟩

end Sys2Proof.Machine
end

section
/-! SUPPORT. Interrupts (60_exceptions.md sections 3 and 4) in the words of the claims: which source is selected, what an entry leaves at
each address, and the return after it. -/
namespace Sys2Proof.Machine

open Sys2Proof.Claims

/-! ### The selection (R281, R282) -/

theorem irqBit_lt (src : Source) : config.irqBit src < 5 := by cases src <;> decide

/-- The sources before one in the priority order are those of the lower bits (R275, D12). -/
theorem sourcesByPriority_split (src : Source) :
    ∃ before after, sourcesByPriority = before ++ src :: after ∧ ∀ x ∈ before, config.irqBit x < config.irqBit src := by
  refine ⟨sourcesByPriority.take (config.irqBit src), sourcesByPriority.drop (config.irqBit src + 1), ?_⟩
  cases src <;> decide

theorem selectSource_eq_none {s : State}
    (h : ∀ k : Nat, k < 5 → ((s.rd config.addrIf).getLsbD k && (s.rd config.addrIe).getLsbD k) = false) :
    selectSource config s = none :=
  List.find?_eq_none.2 fun src _ => Bool.eq_false_iff.1 (h _ (irqBit_lt src))

theorem selectSource_eq_some {s : State} {src : Source} (hsrc : pendingEnabled config s src = true)
    (h : ∀ k : Nat, k < config.irqBit src → ((s.rd config.addrIf).getLsbD k && (s.rd config.addrIe).getLsbD k) = false) :
    selectSource config s = some src := by
  obtain ⟨before, after, hsplit, hlower⟩ := sourcesByPriority_split src
  refine List.find?_eq_some_iff_append.2 ⟨hsrc, before, after, hsplit, fun x hx => ?_⟩
  have hx' : pendingEnabled config s x = false := h _ (hlower x hx)
  rw [hx']
  rfl

theorem interruptEvaluate_of_none {cfg : Config} {s : State} (h : selectSource cfg s = none) : interruptEvaluate cfg s = s := by
  rw [interruptEvaluate, h, ite_self]

theorem interruptEvaluate_of_some {cfg : Config} {s : State} {src : Source} (hime : s.ime = true)
    (h : selectSource cfg s = some src) : interruptEvaluate cfg s = enterInterrupt cfg src s := by
  rw [interruptEvaluate, h, if_pos hime]

/-- Settles O21: the sources tried before the one selected are those of the lower bits. -/
theorem highestPrioritySourceIsTaken : Obligations.HighestPrioritySourceIsTaken := by
  unfold Obligations.HighestPrioritySourceIsTaken
  intro s
  refine ⟨interruptEvaluate_ime config s, fun hnone => interruptEvaluate_of_none (selectSource_eq_none hnone),
    fun src hime hif hie hlower => interruptEvaluate_of_some hime (selectSource_eq_some ?_ hlower)⟩
  exact Bool.and_eq_true_iff.2 ⟨hif, hie⟩

/-! ### The entry (R283, R284) -/

theorem enterInterrupt_pc (cfg : Config) (src : Source) (s : State) : (enterInterrupt cfg src s).pc = cfg.irqVector src := by
  rw [enterInterrupt_frame]

theorem enterInterrupt_ime (cfg : Config) (src : Source) (s : State) : (enterInterrupt cfg src s).ime = false := by
  rw [enterInterrupt_frame]

theorem enterInterrupt_sp (src : Source) (s : State) : (enterInterrupt config src s).sp = s.sp - 2 := by
  rw [enterInterrupt_frame]
  rfl

/-- What an entry leaves: the general registers, F, the run state, the counter and the hidden accumulators (R283). -/
theorem enterInterrupt_kept (cfg : Config) (src : Source) (s : State) :
    (∀ r, (enterInterrupt cfg src s).reg r = s.reg r) ∧ (enterInterrupt cfg src s).f = s.f
      ∧ (enterInterrupt cfg src s).run = s.run ∧ (enterInterrupt cfg src s).cycles = s.cycles
      ∧ (enterInterrupt cfg src s).divAcc = s.divAcc ∧ (enterInterrupt cfg src s).timaAcc = s.timaAcc
      ∧ (enterInterrupt cfg src s).lcdAcc = s.lcdAcc := by
  rw [enterInterrupt_frame]
  exact ⟨fun r => by cases r <;> rfl, rfl, rfl, rfl, rfl, rfl, rfl⟩

/-- Where the push stores nothing, an address reads as after the clearing of the request bit. -/
theorem enterInterrupt_rd_of_ne {s : State} (src : Source) {y : Word} (h1 : y ≠ s.sp - 1) (h2 : y ≠ s.sp - 2) :
    (enterInterrupt config src s).rd y =
      if y = config.addrIf then clearBit8 (s.rd config.addrIf) (config.irqBit src) else s.rd y := by
  rw [enterInterrupt_rd, if_neg fun h => h2 h.2, if_neg fun h => h1 h.2]

theorem enterInterrupt_rd_high {s : State} (src : Source) (h : s.sp - 1 ≠ config.addrDiv) :
    (enterInterrupt config src s).rd (s.sp - 1) = hi8 s.pc := by
  rw [enterInterrupt_rd, if_neg fun h => sub_two_ne_sub_one s.sp h.2.symm, if_pos ⟨rfl, rfl⟩, if_neg h]

theorem enterInterrupt_rd_low {s : State} (src : Source) (h : s.sp - 2 ≠ config.addrDiv) :
    (enterInterrupt config src s).rd (s.sp - 2) = lo8 s.pc := by
  rw [enterInterrupt_rd, if_pos ⟨rfl, rfl⟩, if_neg h]

/-- Without the push, IF is the one byte written. -/
theorem enterInterrupt_rd_noPush {cfg : Config} (src : Source) (s : State) (h : cfg.irqPushPc = false) (y : Word) :
    (enterInterrupt cfg src s).rd y =
      if y = cfg.addrIf then clearBit8 (s.rd cfg.addrIf) (cfg.irqBit src) else s.rd y := by
  have hpush : ¬ cfg.irqPushPc = true := Bool.eq_false_iff.1 h
  rw [enterInterrupt_rd, if_neg fun h => hpush h.1, if_neg fun h => hpush h.1]

/-- Settles O22: the three bytes written, each read at its own address; every other field is as `enterInterrupt_frame` has it. -/
theorem interruptEntryEffect : Obligations.InterruptEntryEffect := by
  unfold Obligations.InterruptEntryEffect
  intro s src hdiv1 hdiv2 hif1 hif2
  refine ⟨fun k _ => ?_, enterInterrupt_ime config src s, enterInterrupt_pc config src s, enterInterrupt_sp src s, ?_, ?_,
    fun x hx h1 h2 => ?_, enterInterrupt_kept config src s⟩
  · rw [enterInterrupt_rd_of_ne src hif1.symm hif2.symm, if_pos rfl, getLsbD_clearBit8]
  · rw [enterInterrupt_rd_high src hdiv1, hi8_eq_ofNat]
  · rw [enterInterrupt_rd_low src hdiv2, lo8_eq_ofNat]
  · rw [enterInterrupt_rd_of_ne src h1 h2, if_neg hx]

/-- Settles O23: as O22 without the two bytes of the push. -/
theorem interruptEntryWithoutPush : Obligations.InterruptEntryWithoutPush := by
  unfold Obligations.InterruptEntryWithoutPush
  intro cfg s src h
  obtain ⟨hreg, hf, hrun, hcycles, -⟩ := enterInterrupt_kept cfg src s
  refine ⟨enterInterrupt_pc cfg src s, enterInterrupt_ime cfg src s, ?_, ?_, fun x hx => ?_, hreg, hf, hrun, hcycles⟩
  · rw [enterInterrupt_frame, h]
    rfl
  · rw [enterInterrupt_rd_noPush src s h, if_pos rfl]
  · rw [enterInterrupt_rd_noPush src s h, if_neg hx]

/-! ### The return (R285) -/

/-- Off the divider the word on top after an entry is the PC interrupted. -/
theorem stackTop_enterInterrupt {s : State} (src : Source) (h1 : s.sp - 1 ≠ config.addrDiv) (h2 : s.sp - 2 ≠ config.addrDiv) :
    stackTop (enterInterrupt config src s) = s.pc := by
  rw [stackTop, enterInterrupt_sp, sub_two_add_one, enterInterrupt_rd_high src h1, enterInterrupt_rd_low src h2, cat16_hi8_lo8]

/-- Settles O24: RETI goes to the word on top, which the entry pushed, and writes no general register. -/
theorem retiUndoesInterruptEntry : Obligations.RetiUndoesInterruptEntry := by
  unfold Obligations.RetiUndoesInterruptEntry
  intro s src h1 h2
  obtain ⟨hreg, hf, hrun, -⟩ := enterInterrupt_kept config src s
  refine ⟨_, exec_eq_reti _, stackTop_enterInterrupt src h1 h2, ?_, rfl, fun r => ?_, hf, hrun⟩
  · rw [returnFromInterrupt_eq, transfer_sp, dropTop_sp, enterInterrupt_sp, sub_two_add_two]
  · rw [returnFromInterrupt_eq, transfer_reg, dropTop_reg, withIme_reg, hreg]

end Sys2Proof.Machine
end

section
/-! SUPPORT. The Timer (60_exceptions.md section 5) in the words of the claims: what the divider, one tick and several ticks leave, and from
them what any sequence of calls has counted (`Counted`) before TIMA overflows. -/
namespace Sys2Proof.Machine

open Sys2Proof.Claims

/-! ### The divider (R290) -/

/-- Settles O25: `timerDivider_rd` at DIV and at every other address. -/
theorem dividerAdvances : Obligations.DividerAdvances := by
  unfold Obligations.DividerAdvances
  intro s cost
  have hframe := timerDivider_frame config cost s
  have hacc : (timerDivider config cost s).divAcc = BitVec.ofNat 8 (s.divAcc.toNat + cost) := by rw [hframe]
  refine ⟨?_, ?_, fun x hx => ?_, ?_⟩
  · rw [hacc, BitVec.toNat_ofNat]
  · simp only [timerDivider_rd, true_and]
  · rw [timerDivider_rd, if_neg fun h => hx h.1]
  · rw [hacc]
    exact hframe

theorem timerDivider_rd_of_ne (cost : Nat) (s : State) {y : Word} (hy : y ≠ config.addrDiv) :
    (timerDivider config cost s).rd y = s.rd y := by
  rw [timerDivider_rd, if_neg fun h => hy h.1]

theorem timerDivider_timaAcc (cost : Nat) (s : State) : (timerDivider config cost s).timaAcc = s.timaAcc := by
  rw [timerDivider_frame]

/-! ### Ticks (R293) -/

theorem timerTick_rd_of_ne_max {s : State} (h : s.rd config.addrTima ≠ 0xFF) (y : Word) :
    (timerTick config s).rd y = if y = config.addrTima then s.rd config.addrTima + 1 else s.rd y := by
  rw [timerTick_plain config s fun hlt => h ((succ_lt_self_iff _).1 hlt), poke_rd]

/-- Bit 2 is the Timer's (D12). -/
theorem timerTick_rd_of_max {s : State} (h : s.rd config.addrTima = 0xFF) (y : Word) :
    (timerTick config s).rd y =
      if y = config.addrTima then s.rd config.addrTma
      else if y = config.addrIf then s.rd config.addrIf ||| 0x04 else s.rd y := by
  rw [timerTick_wrap config s ((succ_lt_self_iff _).2 h), poke_rd, poke_rd]
  rfl

/-- Settles O27: the two cases of a tick at each address. -/
theorem tickOverflowReloads : Obligations.TickOverflowReloads := by
  unfold Obligations.TickOverflowReloads
  intro s
  have hne : config.addrIf ≠ config.addrTima := by decide
  refine ⟨fun h => ?_, fun h => ?_, fun x h1 h2 => ?_, timerTick_frame config s⟩
  · rw [timerTick_rd_of_ne_max h, timerTick_rd_of_ne_max h, if_pos rfl, if_neg hne]
    exact ⟨rfl, rfl⟩
  · rw [timerTick_rd_of_max h, timerTick_rd_of_max h, if_pos rfl, if_neg hne, if_pos rfl]
    exact ⟨rfl, rfl⟩
  · by_cases h : s.rd config.addrTima = 0xFF
    · rw [timerTick_rd_of_max h, if_neg h1, if_neg h2]
    · rw [timerTick_rd_of_ne_max h, if_neg h1]

/-- Where TIMA is not the greatest byte, a tick adds 1 to the number it is. -/
theorem timerTick_tima_toNat {s : State} (h : (s.rd config.addrTima).toNat < 255) :
    s.rd config.addrTima ≠ 0xFF ∧ ((timerTick config s).rd config.addrTima).toNat = (s.rd config.addrTima).toNat + 1 := by
  have hne : s.rd config.addrTima ≠ 0xFF := fun hmax => absurd (hmax ▸ h) (by decide)
  refine ⟨hne, ?_⟩
  rw [timerTick_rd_of_ne_max hne, if_pos rfl]
  bv_omega

/-- As many ticks as leave TIMA a byte add their number to it and write nothing else. -/
theorem timerTicks_rd_within {n : Nat} {s : State} (h : (s.rd config.addrTima).toNat + n ≤ 255) :
    ((timerTicks config n s).rd config.addrTima).toNat = (s.rd config.addrTima).toNat + n
      ∧ ∀ y, y ≠ config.addrTima → (timerTicks config n s).rd y = s.rd y := by
  induction n generalizing s with
  | zero => exact ⟨rfl, fun _ _ => rfl⟩
  | succ n ih =>
    obtain ⟨hne, htick⟩ := timerTick_tima_toNat (s := s) (by omega)
    obtain ⟨hsum, hrest⟩ := ih (s := timerTick config s) (by omega)
    refine ⟨?_, fun y hy => ?_⟩
    · rw [timerTicks, hsum, htick, Nat.add_assoc, Nat.add_comm 1]
    · rw [timerTicks, hrest y hy, timerTick_rd_of_ne_max hne, if_neg hy]

/-! ### The tick accounting (R291, R292) -/

/-- The threshold that TAC selects (R39), in the words of the claims. -/
abbrev threshold (tac : Byte) : Nat := [1024, 16, 64, 256].getD (tac.toNat % 4) 0

theorem timerCpt_tacRate : ∀ tac : Byte, config.timerCpt (tacRate tac) = threshold tac := by decide

theorem threshold_pos (tac : Byte) : 0 < threshold tac := timerCpt_tacRate tac ▸ timerCpt_pos _

/-- The Timer enabled: the divider, then one tick for each whole threshold. -/
theorem timerIncrease_enabled (cost : Nat) {s : State} (h : (s.rd config.addrTac).getLsbD 2 = true) :
    timerIncrease config cost s =
      timerTicks config ((s.timaAcc + cost) / threshold (s.rd config.addrTac))
        { timerDivider config cost s with timaAcc := (s.timaAcc + cost) % threshold (s.rd config.addrTac) } := by
  have htac : (timerDivider config cost s).rd config.addrTac = s.rd config.addrTac := timerDivider_rd_of_ne cost s (by decide)
  rw [timerIncrease_on config cost s (by rw [htac]; exact h), htac, timerCount_config, timerDivider_timaAcc, timerCpt_tacRate]

theorem timerIncrease_enabled_timaAcc (cost : Nat) {s : State} (h : (s.rd config.addrTac).getLsbD 2 = true) :
    (timerIncrease config cost s).timaAcc = (s.timaAcc + cost) % threshold (s.rd config.addrTac) := by
  rw [timerIncrease_enabled cost h, timerTicks_frame]

/-- A call of the enabled Timer in which TIMA does not pass 255. -/
theorem timerIncrease_rd_within {cost : Nat} {s : State} (h : (s.rd config.addrTac).getLsbD 2 = true)
    (hmax : (s.rd config.addrTima).toNat + (s.timaAcc + cost) / threshold (s.rd config.addrTac) ≤ 255) :
    ((timerIncrease config cost s).rd config.addrTima).toNat =
        (s.rd config.addrTima).toNat + (s.timaAcc + cost) / threshold (s.rd config.addrTac)
      ∧ ∀ y, y ≠ config.addrDiv → y ≠ config.addrTima → (timerIncrease config cost s).rd y = s.rd y := by
  have hrd (y : Word) (hy : y ≠ config.addrDiv) (n : Nat) :
      ({ timerDivider config cost s with timaAcc := n } : State).rd y = s.rd y := timerDivider_rd_of_ne cost s hy
  have htima : config.addrTima ≠ config.addrDiv := by decide
  rw [timerIncrease_enabled cost h]
  obtain ⟨hsum, hrest⟩ := timerTicks_rd_within
    (s := { timerDivider config cost s with timaAcc := (s.timaAcc + cost) % threshold (s.rd config.addrTac) })
    (n := (s.timaAcc + cost) / threshold (s.rd config.addrTac)) (by rw [hrd _ htima]; exact hmax)
  refine ⟨?_, fun y hd hy => ?_⟩
  · rw [hsum, hrd _ htima]
  · rw [hrest y hy, hrd y hd]

/-- Settles O26: one tick for each whole threshold, the rest staying in the accumulator. -/
theorem tickAccounting : Obligations.TickAccounting := by
  unfold Obligations.TickAccounting
  intro s cost
  refine ⟨fun hoff => ?_, fun hon => ⟨timerIncrease_enabled_timaAcc cost hon, fun hmax => ?_⟩⟩
  · apply timerIncrease_off
    rw [timerDivider_rd_of_ne cost s (by decide)]
    exact hoff
  · obtain ⟨htima, hrest⟩ := timerIncrease_rd_within hon hmax
    exact ⟨htima, hrest _ (by decide) (by decide)⟩

/-! ### A run of calls up to the overflow (R294) -/

/-- Since `s`, where TIMA and the accumulator were 0, the enabled Timer has counted `n` cycles: their quotient by the threshold is in
TIMA, the remainder in the accumulator, and TAC, TMA and IF are as they were. -/
structure Counted (s : State) (n : Nat) (t : State) : Prop where
  enabled : (s.rd config.addrTac).getLsbD 2 = true
  tima : (t.rd config.addrTima).toNat = n / threshold (s.rd config.addrTac)
  acc : t.timaAcc = n % threshold (s.rd config.addrTac)
  tac : t.rd config.addrTac = s.rd config.addrTac
  tma : t.rd config.addrTma = s.rd config.addrTma
  request : t.rd config.addrIf = s.rd config.addrIf

/-- One more call, in which TIMA does not overflow. -/
theorem counted_timerIncrease {s t : State} {n cost : Nat} (h : Counted s n t)
    (hlt : n + cost < 256 * threshold (s.rd config.addrTac)) : Counted s (n + cost) (timerIncrease config cost t) := by
  obtain ⟨hon, htima, hacc, htac, htma, hreq⟩ := h
  have hon' : (t.rd config.addrTac).getLsbD 2 = true := htac ▸ hon
  have hquot : n / threshold (s.rd config.addrTac) + (n % threshold (s.rd config.addrTac) + cost) / threshold (s.rd config.addrTac)
      = (n + cost) / threshold (s.rd config.addrTac) := by
    rw [← Nat.mul_add_div (threshold_pos _), ← Nat.add_assoc, Nat.div_add_mod]
  have hmax : (n + cost) / threshold (s.rd config.addrTac) ≤ 255 :=
    Nat.le_of_lt_succ (Nat.div_lt_of_lt_mul (hlt.trans_eq (Nat.mul_comm ..)))
  obtain ⟨hsum, hrest⟩ := timerIncrease_rd_within (cost := cost) hon' (by rwa [htac, htima, hacc, hquot])
  refine ⟨hon, ?_, ?_, ?_, ?_, ?_⟩
  · rw [hsum, htac, htima, hacc, hquot]
  · rw [timerIncrease_enabled_timaAcc cost hon', htac, hacc, Nat.mod_add_mod]
  · rw [hrest _ (by decide) (by decide), htac]
  · rw [hrest _ (by decide) (by decide), htma]
  · rw [hrest _ (by decide) (by decide), hreq]

/-- Only the sum of the costs counts. -/
theorem counted_timerRun {s t : State} {costs : List Nat} {n : Nat} (h : Counted s n t)
    (hlt : n + costs.sum < 256 * threshold (s.rd config.addrTac)) : Counted s (n + costs.sum) (timerRun costs t) := by
  induction costs generalizing n t with
  | nil => exact h
  | cons cost costs ih =>
    rw [List.sum_cons, ← Nat.add_assoc] at hlt ⊢
    exact ih (counted_timerIncrease h (by omega)) hlt

theorem div_mod_pred_mul {th : Nat} (h : 0 < th) : (256 * th - 1) / th = 255 ∧ (256 * th - 1) % th = th - 1 := by
  have hsplit : 256 * th - 1 = th * 255 + (th - 1) := by omega
  rw [hsplit, Nat.mul_add_div h, Nat.mul_add_mod, Nat.div_eq_of_lt (Nat.sub_one_lt_of_lt h),
    Nat.mod_eq_of_lt (Nat.sub_one_lt_of_lt h)]
  exact ⟨rfl, rfl⟩

/-- The cycle that fills the accumulator makes one tick. -/
theorem timerIncrease_one {t : State} (hon : (t.rd config.addrTac).getLsbD 2 = true)
    (hacc : t.timaAcc = threshold (t.rd config.addrTac) - 1) :
    timerIncrease config 1 t = timerTick config { timerDivider config 1 t with timaAcc := 0 } := by
  have hpos := threshold_pos (t.rd config.addrTac)
  rw [timerIncrease_enabled 1 hon, hacc, Nat.sub_add_cancel hpos, Nat.div_self hpos, Nat.mod_self]
  rfl

/-- That tick where TIMA is 255: R293 from the state the divider leaves. -/
theorem timerIncrease_one_overflows {t : State} (hon : (t.rd config.addrTac).getLsbD 2 = true)
    (hacc : t.timaAcc = threshold (t.rd config.addrTac) - 1) (hmax : t.rd config.addrTima = 0xFF) :
    (timerIncrease config 1 t).rd config.addrTima = t.rd config.addrTma
      ∧ (timerIncrease config 1 t).rd config.addrIf = t.rd config.addrIf ||| 0x04 ∧ (timerIncrease config 1 t).timaAcc = 0 := by
  have hrd (y : Word) (hy : y ≠ config.addrDiv) : ({ timerDivider config 1 t with timaAcc := 0 } : State).rd y = t.rd y :=
    timerDivider_rd_of_ne 1 t hy
  have htick := timerTick_rd_of_max ((hrd _ (by decide)).trans hmax)
  rw [timerIncrease_one hon hacc]
  refine ⟨?_, ?_, ?_⟩
  · rw [htick, if_pos rfl, hrd _ (by decide)]
  · rw [htick, if_neg (by decide), if_pos rfl, hrd _ (by decide)]
  · rw [timerTick_frame]

/-- Settles O28: by `counted_timerRun` the quotient and the remainder of 256 * th - 1 stand in TIMA and the accumulator. -/
theorem timerOverflowAfterExactCycles : Obligations.TimerOverflowAfterExactCycles := by
  unfold Obligations.TimerOverflowAfterExactCycles
  intro s costs tac th hon htima hacc hsum
  have hpos : 0 < th := threshold_pos tac
  obtain ⟨hdiv, hmod⟩ := div_mod_pred_mul hpos
  have hstart : Counted s 0 s := ⟨hon, by rw [htima, Nat.zero_div]; rfl, by rw [hacc, Nat.zero_mod], rfl, rfl, rfl⟩
  have hrun := counted_timerRun hstart (costs := costs) (by
    rw [Nat.zero_add, hsum]
    exact Nat.sub_one_lt_of_lt (Nat.mul_pos (by decide) hpos))
  rw [Nat.zero_add, hsum] at hrun
  obtain ⟨-, htima', hacc', htac, htma, hreq⟩ := hrun
  have hmax : (timerRun costs s).rd config.addrTima = 255 := BitVec.eq_of_toNat_eq (htima'.trans hdiv)
  have hfull := hacc'.trans hmod
  obtain ⟨hreload, hrequest, hzero⟩ := timerIncrease_one_overflows (htac ▸ hon) (htac ▸ hfull) hmax
  exact ⟨hmax, hfull, hreq, hreload.trans htma, hrequest.trans (by rw [hreq]), hzero⟩

end Sys2Proof.Machine
end

section
/-! SUPPORT. The display-timing state machine (60_exceptions.md section 6) in the words of the claims: the durations and successors by the
two mode bits of STAT, and what the end of a mode leaves in STAT and LY. -/
namespace Sys2Proof.Machine

open Sys2Proof.Claims

/-- The table of R296 by the mode bits (R40). -/
theorem lcdDur_displayModeOf : ∀ stat : Byte,
    config.lcdDur (displayModeOf stat) = [204, 4560, 80, 172].getD (stat.toNat % 4) 0 := by
  decide

/-- R298 with R40: the mode bits become the successor's, the others are kept. -/
theorem succ_displayModeOf : ∀ stat : Byte,
    ((stat &&& 0xFC) ||| displayModeBits (nextDisplayMode (displayModeOf stat))).toNat =
      4 * (stat.toNat / 4) + [1, 2, 3, 0].getD (stat.toNat % 4) 0 := by
  decide

theorem displayModeOf_eq_mode0_iff : ∀ stat : Byte, displayModeOf stat = .mode0 ↔ stat.toNat % 4 = 0 := by
  decide

/-- 153 is followed by 0, and so is every greater line (D24). -/
theorem nextLine_toNat (ly : Byte) : (nextLine config ly).toNat = (ly.toNat + 1) % 154 :=
  Nat.mod_eq_of_lt (Nat.lt_trans (Nat.mod_lt _ (by decide)) (by decide))

theorem withLcdAcc_rd (s : State) (n : Nat) (y : Word) : ({ s with lcdAcc := n } : State).rd y = s.rd y := rfl

/-- STAT and LY are two bytes, so neither write is seen at the other's address. -/
theorem displayTransition_rd_stat (m : DisplayMode) (s : State) :
    (displayTransition config m s).rd config.addrStat =
      ((s.rd config.addrStat &&& 0xFC) ||| displayModeBits (nextDisplayMode m)) := by
  have hne : config.addrStat ≠ config.addrLy := by decide
  unfold displayTransition
  cases m with
  | mode0 => rw [withLcdAcc_rd, poke_rd, if_pos rfl, poke_rd, if_neg hne]
  | mode1 | mode2 | mode3 => rw [withLcdAcc_rd, poke_rd, if_pos rfl]

theorem displayTransition_rd_ly (m : DisplayMode) (s : State) :
    (displayTransition config m s).rd config.addrLy =
      if m = .mode0 then nextLine config (s.rd config.addrLy) else s.rd config.addrLy := by
  have hne : config.addrLy ≠ config.addrStat := by decide
  unfold displayTransition
  cases m with
  | mode0 => rw [withLcdAcc_rd, poke_rd, if_neg hne, poke_rd, if_pos rfl, if_pos rfl]
  | mode1 | mode2 | mode3 => rw [withLcdAcc_rd, poke_rd, if_neg hne, if_neg (by decide)]

/-- Settles O29: below the duration `displayUpdate_within_config`, at or above it the transition of the mode that STAT holds. -/
theorem displayModeTransitions : Obligations.DisplayModeTransitions := by
  unfold Obligations.DisplayModeTransitions
  intro s cost t stat m dur succ ly
  have hdur : config.lcdDur (displayModeOf stat) = dur := lcdDur_displayModeOf stat
  refine ⟨fun hlt => displayUpdate_within_config cost s (hlt.trans_eq hdur.symm), fun hle => ?_⟩
  have ht : t = displayTransition config (displayModeOf stat) { s with lcdAcc := s.lcdAcc + cost } :=
    displayUpdate_ends_config cost s (hdur.trans_le hle)
  have hframe := displayTransition_frame config (displayModeOf stat) { s with lcdAcc := s.lcdAcc + cost }
  rw [ht]
  refine ⟨?_, ?_, ?_, fun x => displayTransition_rd config _ _ x, hframe⟩
  · rw [hframe]
  · rw [displayTransition_rd_stat]
    exact succ_displayModeOf stat
  · rw [displayTransition_rd_ly, ← nextLine_toNat, ← apply_ite BitVec.toNat]
    simp only [displayModeOf_eq_mode0_iff]
    rfl

end Sys2Proof.Machine
end
